-- ==== Sys2Proof/Word.lean ====
section
/-! DEFINITION. The word types of the granite CHIP-8 engine (`00_scope.md` rules R6, R8): bytes, 16-bit
words, the instruction fields that are not register names, and register names. -/

namespace Sys2Proof

/-- One memory cell, one general register, one timer (R20, R21, R29). -/
abbrev Byte := BitVec 8

/-- An instruction word, the index register, the program counter, a return address (R24, R25, R27, R74). -/
abbrev Word := BitVec 16

/-- A 12-bit address field `nnn` (R74). -/
abbrev Addr := BitVec 12

/-- A 4-bit field: an opcode family, a sub-opcode or a sprite height (R74). -/
abbrev Nibble := BitVec 4

/-- The name of a general register, V0 to VF (R21). -/
abbrev Reg := Fin 16

/-- A key number the keyboard can deliver, 0 to 15 (R230, R288). -/
abbrev Key := Fin 16

end Sys2Proof
end

