-- ==== Sys2Proof/Config.lean ====
section
/-! DEFINITION. What is fixed for the machine: the implementation parameters of `00_scope.md` rule R6,
and the free values, which the spec leaves to the world outside the block (R9, R276): constants with no
body, so that no proof can see which value they have. -/

namespace Sys2Proof

/-- Bytes of memory (R6 MEM_SIZE). -/
abbrev Config.memSize : Nat := 4096

/-- Where the program image is loaded, and the reset pc (R6 LOAD_ADDR). -/
abbrev Config.loadAddr : Nat := 512

/-- The longest image that loads, in bytes (R6 MAX_IMAGE). -/
abbrev Config.maxImage : Nat := 3584

/-- Return addresses the stack holds (R6 STACK_DEPTH). -/
abbrev Config.stackDepth : Nat := 16

/-- Framebuffer columns (R6 FB_W). -/
abbrev Config.fbWidth : Nat := 64

/-- Framebuffer rows (R6 FB_H). -/
abbrev Config.fbHeight : Nat := 32

/-- Pixels in one sprite row (R6 SPRITE_W). -/
abbrev Config.spriteWidth : Nat := 8

/-- Bytes of one font glyph (R6 GLYPH_H). -/
abbrev Config.glyphHeight : Nat := 5

/-- Bytes of the font table, at addresses 0 to 79 (R6 FONT_BASE, FONT_SIZE). -/
abbrev Config.fontSize : Nat := 80

/-- Whose atomic action comes next (R11, R276, R288, R292). -/
inductive Turn where
  | engine              -- one engine step
  | delayTick           -- `Tick(DT)` of the delay-timer decrementer
  | soundTick           -- `Tick(ST)` of the sound-timer decrementer
  | keyPress (k : Key)  -- the keyboard sends a key notification carrying `k`
  | shutdown            -- the host sets shutdown_req
  deriving DecidableEq, Repr, Inhabited

/-- FREE VALUE. The `n`-th answer of the random source, `RandomByte()`: any byte (R32, R143; log 27). -/
opaque Config.randomByte : Nat → Byte

/-- FREE VALUE. The keyboard's answer to the `n`-th draw when it is asked for the key number in a register:
any boolean, for numbers of 16 and more too (R230, R287; log 13). -/
opaque Config.keyPressed : Nat → Byte → Bool

/-- FREE VALUE. The schedule: whose action the `n`-th one is, from reset on. The spec admits every interleaving of
engine steps, ticks, key notifications and the host's shutdown, also a shutdown before the first engine step (R265,
R276, R292; log 21, log 24, log 36, log 37). -/
opaque Config.schedule : Nat → Turn

end Sys2Proof
end

