-- ==== Sys2Proof/Machine/State.lean ====
section
/-! DEFINITION. The state of the block (`10_state.md`), its outcomes, and the state right after reset
(`10_state.md` rule R37, `70_reset_and_hazards.md` rules R300 to R302). Plain data throughout. -/

namespace Sys2Proof.Machine

/-- Memory (R20): the bytes that differ from the reset contents, addresses strictly rising. What an address
that is not listed reads as is `resetByte` (Machine/Params.lean). -/
abbrev Memory := List Host.Cell

/-- The framebuffer (R28): 32 rows, top first, of 64 pixels, leftmost first; `true` is lit. -/
abbrev Framebuffer := Vector (Vector Bool 64) 32

/-- The fatal error kinds (R261), codes E1 to E6. -/
inductive FatalKind where
  | stackUnderflow
  | stackOverflow
  | spriteOutOfBounds
  | bcdOutOfBounds
  | storeOutOfBounds
  | loadOutOfBounds
  deriving DecidableEq, Repr

/-- The run status (R33). -/
inductive Status where
  /-- The image was rejected; the run never starts (R301). -/
  | notStarted
  /-- Ready to step. -/
  | running
  /-- Inside LD Vx, K, waiting for a key to store in Vx (R234). -/
  | blocked (x : Reg)
  /-- The fetch bound was met (R71). -/
  | finished
  /-- A fatal error of the instruction at address `a` with word `w` (R260). -/
  | fault (kind : FatalKind) (a w : Word)
  /-- The host's shutdown was taken (R292). -/
  | stopped
  deriving DecidableEq, Repr

/-- The devices that are sent `Shutdown` (R293). -/
inductive Device where
  | display
  | keyboard
  | sound
  deriving DecidableEq, Repr

/-- The events the block sends on its output ports (R286 to R290). -/
inductive Event where
  /-- Display port: the whole framebuffer (R286). -/
  | render (fb : Framebuffer)
  /-- Sound port: a beep of `ms` milliseconds (R289). -/
  | beep (ms : Nat)
  /-- The port of a device: the run has ended (R293). -/
  | shutdown (d : Device)
  /-- Status port: the unknown word `w` at address `a` was skipped (R262), code E0. -/
  | diag (a w : Word)
  /-- Status port: a fatal error (R260). -/
  | fault (kind : FatalKind) (a w : Word)
  /-- Status port: the run ended cleanly (R71). -/
  | finished
  /-- Status port: the shutdown was taken (R292). -/
  | stopped
  /-- Status port: an image of `len` bytes was rejected (R263), code L1. -/
  | loadRejected (len : Nat)
  deriving DecidableEq, Repr

/-- Everything the spec gives the block, and the model's own bookkeeping of the world outside it. -/
structure State where
  /-- Memory (R20). -/
  mem : Memory
  /-- V0 to VF (R21); V15 is the flags register VF (R22). -/
  v : Vector Byte 16
  /-- The index register I (R24). -/
  i : Word
  /-- The program counter (R25). -/
  pc : Word
  /-- The stack pointer: how many return addresses are on the stack (R26). -/
  sp : Byte
  /-- The call stack (R27). -/
  stack : Vector Word 16
  /-- The framebuffer (R28). -/
  fb : Framebuffer
  /-- The delay timer (R29); Armed exactly when not zero (R30). -/
  dt : Byte
  /-- The sound timer (R29); Armed exactly when not zero (R30). -/
  st : Byte
  /-- The run status (R33). -/
  status : Status
  /-- The host's shutdown request (R35). -/
  shutdownReq : Bool
  /-- The events sent so far on all output ports, oldest first (R286 to R290; log 43). -/
  out : List Event
  /-- The model's own: draws taken so far, the argument of the free values (log 13, log 27, log 45). -/
  draws : Nat
  /-- The model's own: whose action is next (log 36, log 37). -/
  turn : Turn
  /-- The model's own: the number of the action that is next, the argument of the free schedule (log 36, log 45). -/
  moves : Nat
  deriving DecidableEq, Repr

/-- Where the machine stops. The first four are the stuck states after the end of a run (R10; log 39). -/
inductive Fault where
  /-- Raised by `step` when the image was rejected and the run never starts (R301). Safe. -/
  | notStarted
  /-- Raised by `step` after the run has Finished (R10, R304). Safe. -/
  | runFinished
  /-- Raised by `step` after a fatal error ended the run (R260). Safe. -/
  | runFaulted (kind : FatalKind) (a w : Word)
  /-- Raised by `step` after the shutdown was taken (R292). Safe. -/
  | runStopped
  /-- Raised by CALL and RET when sp is above 16, a value R26 and R38 rule out: no run reaches it (log 40).
  Safe. -/
  | stackPointerRange (sp : Byte)
  deriving DecidableEq, Repr

/-- Why an instruction has no meaning. -/
inductive Refusal where
  /-- Raised by `exec` for an instruction not modelled yet. Safe. No arm raises it. -/
  | notModelled (mnemonic : String)
  deriving DecidableEq, Repr

/-- What one action of the machine answers. -/
abbrev Result := Host.Outcome State Fault Refusal

/-- The machine right after construction with the empty image (R37, R300 to R302). The zeros of V0..VF, I, sp,
the stack, the framebuffer, the timers and shutdown_req are the spec's decision D15 (DESIGN CHOICE, log 15);
memory lists nothing, so it holds the font and zeros (D16, log 16). The first action is the free schedule's, not
always the engine's: the host may set shutdown_req before the first step (R292, R304; log 37). -/
def State.reset : State where
  mem := []
  v := Vector.replicate 16 0
  i := 0
  pc := 0x0200
  sp := 0
  stack := Vector.replicate 16 0
  fb := Vector.replicate 32 (Vector.replicate 64 false)
  dt := 0
  st := 0
  status := .running
  shutdownReq := false
  out := []
  draws := 0
  turn := Config.schedule 0
  moves := 0

end Sys2Proof.Machine
end

