-- ==== Sys2Proof/Machine/Params.lean ====
section
/-! DEFINITION. The parameters the source does not fix (`00_scope.md` rule R7), at the defaults the spec gives,
and what memory holds at reset (`20_memory.md` rule R56). -/

namespace Sys2Proof.Machine

/-- The glyphs 0 to 7 of the default FONT (R31; the spec's D17, general knowledge; log 17). -/
def fontLow : List Byte :=
  [0xF0, 0x90, 0x90, 0x90, 0xF0,  0x20, 0x60, 0x20, 0x20, 0x70,
   0xF0, 0x10, 0xF0, 0x80, 0xF0,  0xF0, 0x10, 0xF0, 0x10, 0xF0,
   0x90, 0x90, 0xF0, 0x10, 0x10,  0xF0, 0x80, 0xF0, 0x10, 0xF0,
   0xF0, 0x80, 0xF0, 0x90, 0xF0,  0xF0, 0x10, 0x20, 0x40, 0x40]

/-- The glyphs 8 to F of the default FONT (R31). -/
def fontHigh : List Byte :=
  [0xF0, 0x90, 0xF0, 0x90, 0xF0,  0xF0, 0x90, 0xF0, 0x10, 0xF0,
   0xF0, 0x90, 0xF0, 0x90, 0x90,  0xE0, 0x90, 0xE0, 0x90, 0xE0,
   0xF0, 0x80, 0x80, 0x80, 0xF0,  0xE0, 0x90, 0x90, 0x90, 0xE0,
   0xF0, 0x80, 0xF0, 0x80, 0xF0,  0xF0, 0x80, 0xF0, 0x80, 0x80]

/-- FONT: the 80 bytes of the font table, glyph `g` at `5g .. 5g+4` (R31). -/
def font : List Byte := fontLow ++ fontHigh

/-- BEEP_MS: the duration passed to the sound device (R7, R274; the spec's D20; log 20). -/
def beepMs : Nat := 16

/-- What an address reads as that nothing has written: the font at 0 to 79, 0x00 above (R37, R56; the spec's
D16; log 16). -/
def resetByte (a : Nat) : Byte := font.getD a 0

end Sys2Proof.Machine
end

