-- ==== Sys2Proof/Machine/Ops.lean ====
section
/-! DEFINITION. The named operations over memory, registers, stack, timers, ports and status that the meanings
share, the ending of a run and the fatal error (the block's only exception; it has no handler and no return,
`60_exceptions.md` rules R260, R266, R267). -/

namespace Sys2Proof.Machine

/-! ### Memory (R20, R53 to R58) -/

/-- `MemRead(a, 1)`. Every rule checks the range first, so no address of 4096 or more is read (R58; log 41). -/
def Memory.read (m : Memory) (a : Nat) : Byte :=
  match m with
  | [] => resetByte a
  | (a', b) :: rest => if a' = a then b else Memory.read rest a

/-- Put a cell in its place among rising addresses. -/
def Memory.insert (m : Memory) (a : Nat) (b : Byte) : Memory :=
  match m with
  | [] => [(a, b)]
  | (a', b') :: rest => if a < a' then (a, b) :: (a', b') :: rest else (a', b') :: Memory.insert rest a b

/-- Forget what was written at an address. -/
def Memory.erase (m : Memory) (a : Nat) : Memory := m.filter (fun c => c.1 != a)

/-- `MemWrite(a, 1, b)`, in canonical form: a byte equal to what the unlisted address reads as is not listed.
An address outside memory does not exist and is never written (R58; log 41). -/
def Memory.write (m : Memory) (a : Nat) (b : Byte) : Memory :=
  if a < Config.memSize then
    if b = resetByte a then m.erase a else (m.erase a).insert a b
  else m

/-- Single-byte writes at ascending addresses (R51). -/
def Memory.writeBytes (m : Memory) (a : Nat) : List Byte → Memory
  | [] => m
  | b :: bs => Memory.writeBytes (m.write a b) (a + 1) bs

/-- The canonical form: addresses strictly rising and inside memory, no byte that an unlisted address reads as. -/
abbrev Memory.wf (m : Memory) : Prop :=
  m.Pairwise (fun c d => c.1 < d.1) ∧ ∀ c ∈ m, c.1 < 4096 ∧ c.2 ≠ resetByte c.1

/-- The check of every instruction that accesses `count` bytes from I, on integers (R53, R170). -/
def fits (i : Word) (count : Nat) : Bool := decide (i.toNat + count ≤ Config.memSize)

/-! ### Registers (R21 to R25) -/

/-- The flags register (R22). -/
abbrev vf : Reg := 15

/-- `V[x]`. -/
def State.reg (s : State) (x : Reg) : Byte := s.v[x]

/-- `V[x] <- b`. -/
def State.setReg (s : State) (x : Reg) (b : Byte) : State := { s with v := s.v.set x b }

/-- `V[x] <- r`, then `VF <- flag`, in this order (R131; the spec's D4; log 4). -/
def State.setRegFlag (s : State) (x : Reg) (r flag : Byte) : State := (s.setReg x r).setReg vf flag

/-- `V0 .. Vx`, in ascending order (R175). -/
def State.regsUpTo (s : State) (x : Reg) : List Byte := s.v.toList.take (x.val + 1)

/-- `V[k] <- mem[a + k]` for `k` in `0 .. x`, the others unchanged (R176). -/
def State.loadUpTo (s : State) (a : Nat) (x : Reg) : State :=
  { s with v := Vector.ofFn (fun k : Reg => if k ≤ x then s.mem.read (a + k.val) else s.reg k) }

/-- `I <- a`. -/
def State.setI (s : State) (a : Word) : State := { s with i := a }

/-- `pc <- a`. -/
def State.setPc (s : State) (a : Word) : State := { s with pc := a }

/-- `pc <- pc + 2`, after the fetch and before the instruction executes (R72). -/
def State.advancePc (s : State) : State := { s with pc := s.pc + 2 }

/-- A skip: one extra instruction width when the condition holds (R100). -/
def State.skipIf (s : State) (c : Bool) : State := { s with pc := if c then s.pc + 2 else s.pc }

/-! ### Memory, framebuffer and timers of the state -/

def State.setMem (s : State) (m : Memory) : State := { s with mem := m }

def State.setFb (s : State) (f : Framebuffer) : State := { s with fb := f }

/-- `TimerWrite(DT, b)`: one atomic action; Armed is `DT != 0`, so nothing else changes (R30, R272). -/
def State.setDelay (s : State) (b : Byte) : State := { s with dt := b }

/-- `TimerWrite(ST, b)` (R272). -/
def State.setSound (s : State) (b : Byte) : State := { s with st := b }

/-! ### The call stack (R26, R27) -/

/-- `stack[j]`; used with `j < 16` only. -/
def State.stackEntry (s : State) (j : Byte) : Word := s.stack.getD j.toNat 0

/-- `stack[sp] <- a; sp <- sp + 1`; used with `sp < 16` only. -/
def State.push (s : State) (a : Word) : State :=
  { s with stack := s.stack.setIfInBounds s.sp.toNat a, sp := s.sp + 1 }

/-- `sp <- sp - 1; pc <- stack[sp]`; the entry keeps its value. -/
def State.popPc (s : State) : State := { s with sp := s.sp - 1, pc := s.stackEntry (s.sp - 1) }

/-! ### Draws, turns, ports, status -/

/-- One draw was taken: the next one is fresh (R143, R230). -/
def State.nextDraw (s : State) : State := { s with draws := s.draws + 1 }

/-- The schedule says whose action comes next (R276; log 36). -/
def State.passTurn (s : State) : State :=
  { s with turn := Config.schedule (s.moves + 1), moves := s.moves + 1 }

def State.setStatus (s : State) (r : Status) : State := { s with status := r }

/-- The host sets shutdown_req (R35, R292). -/
def State.requestShutdown (s : State) : State := { s with shutdownReq := true }

/-- Send an event on an output port (R286 to R290). -/
def State.emit (s : State) (e : Event) : State := { s with out := s.out ++ [e] }

/-- The Shutdown events, in their order (R293; the spec's D26; log 26). -/
def shutdownEvents : List Event := [.shutdown .display, .shutdown .keyboard, .shutdown .sound]

/-- The run ends: the terminal status, its status event, then Shutdown to the devices (R293). -/
def State.endRun (s : State) (r : Status) (e : Event) : State :=
  { s with status := r, out := s.out ++ e :: shutdownEvents }

/-- `raise Fatal(kind, a, w)` (R260): the run ends in the Fault status with the error recorded; the instruction
writes nothing. `a` is the instruction's address, two below the advanced pc (R72; log 42). -/
def State.fatal (s : State) (kind : FatalKind) (w : Word) : State :=
  s.endRun (.fault kind (s.pc - 2) w) (.fault kind (s.pc - 2) w)

/-- The spec's label of a fatal kind (R261). -/
def FatalKind.code : FatalKind → String
  | .stackUnderflow => "E1"
  | .stackOverflow => "E2"
  | .spriteOutOfBounds => "E3"
  | .bcdOutOfBounds => "E4"
  | .storeOutOfBounds => "E5"
  | .loadOutOfBounds => "E6"

/-- The spec's label of the error an event reports, if it reports one (R261). -/
def Event.errorCode : Event → Option String
  | .diag _ _ => some "E0"
  | .fault kind _ _ => some kind.code
  | .loadRejected _ => some "L1"
  | .render _ | .beep _ | .shutdown _ | .finished | .stopped => none

/-- Apply `f` to the next state; a fault or a refusal stays. -/
def onNext (f : State → State) : Result → Result
  | .next s => .next (f s)
  | .fault r => .fault r
  | .refused r => .refused r

end Sys2Proof.Machine
end

