-- ==== Sys2Proof/Machine/Flags.lean ====
section
/-! DEFINITION. What the flag-writing instructions leave in VF (`10_state.md` rule R22, `41_alu.md` rules R138
to R144, `43_display.md` rule R205). -/

namespace Sys2Proof.Machine

/-- A flag as the byte 1 or 0. -/
def flagByte (c : Bool) : Byte := if c then 1 else 0

/-- The carry out of the 9-bit sum (R138). -/
def carryFlag (p q : Byte) : Byte := flagByte (decide (255 < p.toNat + q.toNat))

/-- SUB's and SUBN's flag: 1 iff the minuend is greater than the subtrahend, strictly (R139, R141; log 6). -/
def greaterFlag (minuend subtrahend : Byte) : Byte := flagByte (decide (subtrahend.toNat < minuend.toNat))

/-- The bit SHR shifts out (R140). -/
def shrFlag (p : Byte) : Byte := flagByte (p.getLsbD 0)

/-- The bit SHL shifts out (R142). -/
def shlFlag (p : Byte) : Byte := flagByte (p.getLsbD 7)

/-- DRW's collision flag (R205). -/
def collisionFlag (hit : Bool) : Byte := flagByte hit

end Sys2Proof.Machine
end

