-- ==== Sys2Proof/Machine/Operands.lean ====
section
/-! DEFINITION. The operand forms (`30_encoding.md` rule R75): every field is unsigned and zero-extended where
it meets a wider value; none is sign-extended, scaled or shifted. -/

namespace Sys2Proof.Machine

/-- `zext_16(nnn)`. -/
def addrOperand (nnn : Addr) : Word := nnn.zeroExtend 16

/-- `zext_16(V[x])`: a register used as an offset. -/
def State.regOperand (s : State) (x : Reg) : Word := (s.reg x).zeroExtend 16

/-- `n` as a count (R75). -/
def countOperand (n : Nibble) : Nat := n.toNat

/-- How many bytes LD [I], Vx and LD Vx, [I] move: V0 to Vx inclusive (R53). -/
def blockCount (x : Reg) : Nat := x.val + 1

/-- The address of a digit's glyph: the register value, not masked, times the glyph height (R173). -/
def glyphAddress (b : Byte) : Word := b.zeroExtend 16 * BitVec.ofNat 16 Config.glyphHeight

/-- The three decimal digits of a byte, hundreds first, padded with zeros (R174; `90_conflicts.md` C4). -/
def bcdDigits (b : Byte) : List Byte :=
  [BitVec.ofNat 8 (b.toNat / 100), BitVec.ofNat 8 (b.toNat / 10 % 10), BitVec.ofNat 8 (b.toNat % 10)]

/-- A delivered key number as a register value (R234). -/
def keyOperand (k : Key) : Byte := BitVec.ofNat 8 k.val

end Sys2Proof.Machine
end

