-- ==== Sys2Proof/Decode.lean ====
section
/-! DEFINITION. The decoder and the encoder (`30_encoding.md` rules R50, R74 to R82), the opcode table as the
spec lists it (R77), and the host's view of a table word. The numeric opcode values are the spec's decision D1
(general knowledge; log 1), strict matching its decision D2 (log 2). -/

namespace Sys2Proof

/-! ### Fields of a word (R74) -/

/-- `op = w[15:12]`. -/
def opField (w : Word) : Nibble := w.extractLsb' 12 4

/-- `x = w[11:8]`. -/
def xField (w : Word) : Reg := (w.extractLsb' 8 4).toFin

/-- `y = w[7:4]`. -/
def yField (w : Word) : Reg := (w.extractLsb' 4 4).toFin

/-- `n = w[3:0]`. -/
def nField (w : Word) : Nibble := w.extractLsb' 0 4

/-- `kk = w[7:0]`. -/
def kkField (w : Word) : Byte := w.extractLsb' 0 8

/-- `nnn = w[11:0]`. -/
def nnnField (w : Word) : Addr := w.extractLsb' 0 12

/-! ### Decoding -/

/-- Why bytes are not an instruction. -/
inductive DecodeError where
  | unknownWord (w : Word)   -- the word matches no row of R77 (R79)
  | tooShort                 -- fewer than two bytes (R81)
  deriving DecidableEq, Repr

/-- The register-register family 0x8, by its low nibble (R76). -/
def decodeAlu (w : Word) (x y : Reg) : Except DecodeError Instr :=
  match nField w with
  | 0x0#4 => .ok (.ldReg x y)
  | 0x1#4 => .ok (.orReg x y)
  | 0x2#4 => .ok (.andReg x y)
  | 0x3#4 => .ok (.xorReg x y)
  | 0x4#4 => .ok (.addReg x y)
  | 0x5#4 => .ok (.subReg x y)
  | 0x6#4 => .ok (.shr x y)
  | 0x7#4 => .ok (.subn x y)
  | 0xE#4 => .ok (.shl x y)
  | _ => .error (.unknownWord w)

/-- The key family 0xE, by its low byte (R76). -/
def decodeKey (w : Word) (x : Reg) : Except DecodeError Instr :=
  match kkField w with
  | 0x9E#8 => .ok (.skp x)
  | 0xA1#8 => .ok (.sknp x)
  | _ => .error (.unknownWord w)

/-- The timer/IO family 0xF, by its low byte (R76). -/
def decodeIo (w : Word) (x : Reg) : Except DecodeError Instr :=
  match kkField w with
  | 0x07#8 => .ok (.ldVxDt x)
  | 0x0A#8 => .ok (.ldVxK x)
  | 0x15#8 => .ok (.ldDtVx x)
  | 0x18#8 => .ok (.ldStVx x)
  | 0x1E#8 => .ok (.addI x)
  | 0x29#8 => .ok (.ldF x)
  | 0x33#8 => .ok (.ldB x)
  | 0x55#8 => .ok (.store x)
  | 0x65#8 => .ok (.load x)
  | _ => .error (.unknownWord w)

/-- `decode(w)` (R82): the instruction of the one row that matches, or UNKNOWN. -/
def decodeWord (w : Word) : Except DecodeError Instr :=
  match opField w with
  | 0x0#4 => if w = 0x00E0 then .ok .cls else if w = 0x00EE then .ok .ret else .error (.unknownWord w)
  | 0x1#4 => .ok (.jp (nnnField w))
  | 0x2#4 => .ok (.call (nnnField w))
  | 0x3#4 => .ok (.seImm (xField w) (kkField w))
  | 0x4#4 => .ok (.sneImm (xField w) (kkField w))
  | 0x5#4 => if nField w = 0 then .ok (.seReg (xField w) (yField w)) else .error (.unknownWord w)
  | 0x6#4 => .ok (.ldImm (xField w) (kkField w))
  | 0x7#4 => .ok (.addImm (xField w) (kkField w))
  | 0x8#4 => decodeAlu w (xField w) (yField w)
  | 0x9#4 => if nField w = 0 then .ok (.sneReg (xField w) (yField w)) else .error (.unknownWord w)
  | 0xA#4 => .ok (.ldI (nnnField w))
  | 0xB#4 => .ok (.jpV0 (nnnField w))
  | 0xC#4 => .ok (.rnd (xField w) (kkField w))
  | 0xD#4 => .ok (.drw (xField w) (yField w) (nField w))
  | 0xE#4 => decodeKey w (xField w)
  | _ => decodeIo w (xField w)

/-- The word two bytes make: the first byte supplies bits 15..8 (R50). -/
def wordOfBytes (hi lo : Byte) : Word := hi ++ lo

/-- The two bytes of a word in fetch order (R50, R84). -/
def hiByte (w : Word) : Byte := w.extractLsb' 8 8

def loByte (w : Word) : Byte := w.extractLsb' 0 8

/-- Decode the instruction at the head of a byte sequence; the rest follows (R50, R81). -/
def decodeBytes : List Byte → Except DecodeError (Instr × List Byte)
  | hi :: lo :: rest =>
    match decodeWord (wordOfBytes hi lo) with
    | .ok i => .ok (i, rest)
    | .error e => .error e
  | _ => .error .tooShort

/-- The bytes in memory order of an opcode-table word. The table numbers the one 16-bit word's bits from its
least significant bit (R8, R74). -/
def tableBytes (nbits w : Nat) : List Byte :=
  let word : Word := BitVec.ofNat 16 (w % 2 ^ nbits)
  [hiByte word, loByte word]

/-- What the decoder reads from a table word; a value that does not fit in 16 bits is no word. -/
def decodeTableWord (nbits w : Nat) : Option Instr :=
  if w < 2 ^ 16 then
    match decodeBytes (tableBytes nbits w) with
    | .ok (i, _) => some i
    | .error _ => none
  else none

/-! ### Encoding (R77) -/

/-- The shape op-x-y-n. -/
def encodeXYN (op : Nibble) (x y : Reg) (n : Nibble) : Word :=
  op ++ (BitVec.ofFin (w := 4) x) ++ (BitVec.ofFin (w := 4) y) ++ n

/-- The shape op-x-kk. -/
def encodeXKk (op : Nibble) (x : Reg) (kk : Byte) : Word :=
  op ++ (BitVec.ofFin (w := 4) x) ++ kk

/-- The shape op-nnn. -/
def encodeNnn (op : Nibble) (nnn : Addr) : Word := op ++ nnn

/-- The word of an instruction, row by row of R77. -/
def encode : Instr → Word
  | .cls => 0x00E0
  | .ret => 0x00EE
  | .jp nnn => encodeNnn 0x1 nnn
  | .call nnn => encodeNnn 0x2 nnn
  | .seImm x kk => encodeXKk 0x3 x kk
  | .sneImm x kk => encodeXKk 0x4 x kk
  | .seReg x y => encodeXYN 0x5 x y 0x0
  | .ldImm x kk => encodeXKk 0x6 x kk
  | .addImm x kk => encodeXKk 0x7 x kk
  | .ldReg x y => encodeXYN 0x8 x y 0x0
  | .orReg x y => encodeXYN 0x8 x y 0x1
  | .andReg x y => encodeXYN 0x8 x y 0x2
  | .xorReg x y => encodeXYN 0x8 x y 0x3
  | .addReg x y => encodeXYN 0x8 x y 0x4
  | .subReg x y => encodeXYN 0x8 x y 0x5
  | .shr x y => encodeXYN 0x8 x y 0x6
  | .subn x y => encodeXYN 0x8 x y 0x7
  | .shl x y => encodeXYN 0x8 x y 0xE
  | .sneReg x y => encodeXYN 0x9 x y 0x0
  | .ldI nnn => encodeNnn 0xA nnn
  | .jpV0 nnn => encodeNnn 0xB nnn
  | .rnd x kk => encodeXKk 0xC x kk
  | .drw x y n => encodeXYN 0xD x y n
  | .skp x => encodeXKk 0xE x 0x9E
  | .sknp x => encodeXKk 0xE x 0xA1
  | .ldVxDt x => encodeXKk 0xF x 0x07
  | .ldVxK x => encodeXKk 0xF x 0x0A
  | .ldDtVx x => encodeXKk 0xF x 0x15
  | .ldStVx x => encodeXKk 0xF x 0x18
  | .addI x => encodeXKk 0xF x 0x1E
  | .ldF x => encodeXKk 0xF x 0x29
  | .ldB x => encodeXKk 0xF x 0x33
  | .store x => encodeXKk 0xF x 0x55
  | .load x => encodeXKk 0xF x 0x65

/-- The instruction's bytes in memory order (R50, R81). -/
def encodeBytes (i : Instr) : List Byte := [hiByte (encode i), loByte (encode i)]

/-! ### The opcode table as the spec lists it (R77) -/

/-- One row: a word matches it when `w & mask = pattern`. -/
structure OpcodeRow where
  mnemonic : String
  mask : Word
  pattern : Word
  deriving DecidableEq, Repr

abbrev OpcodeRow.Matches (r : OpcodeRow) (w : Word) : Prop := w &&& r.mask = r.pattern

/-- Rows 1 to 9 of R77. -/
def opcodeRowsPlain : List OpcodeRow :=
  [⟨"CLS", 0xFFFF, 0x00E0⟩, ⟨"RET", 0xFFFF, 0x00EE⟩, ⟨"JP_nnn", 0xF000, 0x1000⟩, ⟨"CALL_nnn", 0xF000, 0x2000⟩,
   ⟨"SE_Vx__kk", 0xF000, 0x3000⟩, ⟨"SNE_Vx__kk", 0xF000, 0x4000⟩, ⟨"SE_Vx__Vy", 0xF00F, 0x5000⟩,
   ⟨"LD_Vx__kk", 0xF000, 0x6000⟩, ⟨"ADD_Vx__kk", 0xF000, 0x7000⟩]

/-- Rows 10 to 18 of R77. -/
def opcodeRowsAlu : List OpcodeRow :=
  [⟨"LD_Vx__Vy", 0xF00F, 0x8000⟩, ⟨"OR_Vx__Vy", 0xF00F, 0x8001⟩, ⟨"AND_Vx__Vy", 0xF00F, 0x8002⟩,
   ⟨"XOR_Vx__Vy", 0xF00F, 0x8003⟩, ⟨"ADD_Vx__Vy", 0xF00F, 0x8004⟩, ⟨"SUB_Vx__Vy", 0xF00F, 0x8005⟩,
   ⟨"SHR_Vx____Vy", 0xF00F, 0x8006⟩, ⟨"SUBN_Vx__Vy", 0xF00F, 0x8007⟩, ⟨"SHL_Vx____Vy", 0xF00F, 0x800E⟩]

/-- Rows 19 to 25 of R77. -/
def opcodeRowsMiddle : List OpcodeRow :=
  [⟨"SNE_Vx__Vy", 0xF00F, 0x9000⟩, ⟨"LD_I__nnn", 0xF000, 0xA000⟩, ⟨"JP_V0__nnn", 0xF000, 0xB000⟩,
   ⟨"RND_Vx__kk", 0xF000, 0xC000⟩, ⟨"DRW_Vx__Vy__n", 0xF000, 0xD000⟩, ⟨"SKP_Vx", 0xF0FF, 0xE09E⟩,
   ⟨"SKNP_Vx", 0xF0FF, 0xE0A1⟩]

/-- Rows 26 to 34 of R77. -/
def opcodeRowsIo : List OpcodeRow :=
  [⟨"LD_Vx__DT", 0xF0FF, 0xF007⟩, ⟨"LD_Vx__K", 0xF0FF, 0xF00A⟩, ⟨"LD_DT__Vx", 0xF0FF, 0xF015⟩,
   ⟨"LD_ST__Vx", 0xF0FF, 0xF018⟩, ⟨"ADD_I__Vx", 0xF0FF, 0xF01E⟩, ⟨"LD_F__Vx", 0xF0FF, 0xF029⟩,
   ⟨"LD_B__Vx", 0xF0FF, 0xF033⟩, ⟨"LD__I___Vx", 0xF0FF, 0xF055⟩, ⟨"LD_Vx___I", 0xF0FF, 0xF065⟩]

/-- The whole table, in the spec's order. -/
def opcodeRows : List OpcodeRow :=
  opcodeRowsPlain ++ opcodeRowsAlu ++ opcodeRowsMiddle ++ opcodeRowsIo

/-- The instruction's name in the table. -/
def Instr.mnemonic : Instr → String
  | .cls => "CLS"
  | .ret => "RET"
  | .jp _ => "JP_nnn"
  | .call _ => "CALL_nnn"
  | .seImm _ _ => "SE_Vx__kk"
  | .sneImm _ _ => "SNE_Vx__kk"
  | .seReg _ _ => "SE_Vx__Vy"
  | .ldImm _ _ => "LD_Vx__kk"
  | .addImm _ _ => "ADD_Vx__kk"
  | .ldReg _ _ => "LD_Vx__Vy"
  | .orReg _ _ => "OR_Vx__Vy"
  | .andReg _ _ => "AND_Vx__Vy"
  | .xorReg _ _ => "XOR_Vx__Vy"
  | .addReg _ _ => "ADD_Vx__Vy"
  | .subReg _ _ => "SUB_Vx__Vy"
  | .shr _ _ => "SHR_Vx____Vy"
  | .subn _ _ => "SUBN_Vx__Vy"
  | .shl _ _ => "SHL_Vx____Vy"
  | .sneReg _ _ => "SNE_Vx__Vy"
  | .ldI _ => "LD_I__nnn"
  | .jpV0 _ => "JP_V0__nnn"
  | .rnd _ _ => "RND_Vx__kk"
  | .drw _ _ _ => "DRW_Vx__Vy__n"
  | .skp _ => "SKP_Vx"
  | .sknp _ => "SKNP_Vx"
  | .ldVxDt _ => "LD_Vx__DT"
  | .ldVxK _ => "LD_Vx__K"
  | .ldDtVx _ => "LD_DT__Vx"
  | .ldStVx _ => "LD_ST__Vx"
  | .addI _ => "ADD_I__Vx"
  | .ldF _ => "LD_F__Vx"
  | .ldB _ => "LD_B__Vx"
  | .store _ => "LD__I___Vx"
  | .load _ => "LD_Vx___I"

end Sys2Proof
end

