-- ==== Sys2Proof/Machine/Control.lean ====
section
/-! DEFINITION. Control transfer (`40_control.md`). On entry pc is the address of the following instruction
(R72); no target is checked (R110). -/

namespace Sys2Proof.Machine

/-- RET (R101). -/
def execRet (s : State) : Result :=
  if s.sp = 0 then .next (s.fatal .stackUnderflow (encode .ret))
  else if s.sp.toNat ≤ Config.stackDepth then .next s.popPc
  else .fault (.stackPointerRange s.sp)

/-- JP nnn (R102). -/
def execJp (nnn : Addr) (s : State) : Result := .next (s.setPc (addrOperand nnn))

/-- CALL nnn (R103): the pushed value is the advanced pc. -/
def execCall (nnn : Addr) (s : State) : Result :=
  if s.sp = 16 then .next (s.fatal .stackOverflow (encode (.call nnn)))
  else if s.sp.toNat < Config.stackDepth then .next ((s.push s.pc).setPc (addrOperand nnn))
  else .fault (.stackPointerRange s.sp)

/-- SE Vx, kk (R104). -/
def execSeImm (x : Reg) (kk : Byte) (s : State) : Result := .next (s.skipIf (s.reg x == kk))

/-- SNE Vx, kk (R105). -/
def execSneImm (x : Reg) (kk : Byte) (s : State) : Result := .next (s.skipIf (s.reg x != kk))

/-- SE Vx, Vy (R106). -/
def execSeReg (x y : Reg) (s : State) : Result := .next (s.skipIf (s.reg x == s.reg y))

/-- SNE Vx, Vy (R107; `90_conflicts.md` C3). -/
def execSneReg (x y : Reg) (s : State) : Result := .next (s.skipIf (s.reg x != s.reg y))

/-- JP V0, nnn (R108): the sum is not masked (the spec's D28; log 28). -/
def execJpV0 (nnn : Addr) (s : State) : Result := .next (s.setPc (s.regOperand 0 + addrOperand nnn))

end Sys2Proof.Machine
end

