-- ==== Sys2Proof/Machine/Framebuffer.lean ====
section
/-! DEFINITION. The framebuffer and the sprite compositor (`43_display.md` rules R200 to R205): the loops of
R203, row by row and column by column, with clipping. -/

namespace Sys2Proof.Machine

/-- `fb[x][y]`; used inside the grid only. -/
def Framebuffer.pixel (f : Framebuffer) (x y : Nat) : Bool :=
  if h : x < 64 ∧ y < 32 then (f[y]'h.2)[x]'h.1 else false

/-- `fb[x][y] <- b`; used inside the grid only. -/
def Framebuffer.setPixel (f : Framebuffer) (x y : Nat) (b : Bool) : Framebuffer :=
  if h : x < 64 ∧ y < 32 then f.set y ((f[y]'h.2).set x b h.1) h.2 else f

/-- All pixels dark (R201). -/
def Framebuffer.clear : Framebuffer := Vector.replicate 32 (Vector.replicate 64 false)

/-- The pixel of a sprite row in column `c`: bit `7 - c`, most-significant bit leftmost (R202). -/
def spriteBit (b : Byte) (c : Nat) : Bool := b.getLsbD (7 - c)

/-- The columns `cs` of sprite row `b` at row `py`, left first; stops at the right edge. The Bool is the
collision so far. -/
def drawColumns (b : Byte) (ox py : Nat) : List Nat → Framebuffer × Bool → Framebuffer × Bool
  | [], acc => acc
  | c :: cs, (f, hit) =>
    if Config.fbWidth ≤ ox + c then (f, hit)
    else if spriteBit b c then
      drawColumns b ox py cs (f.setPixel (ox + c) py (!f.pixel (ox + c) py), hit || f.pixel (ox + c) py)
    else drawColumns b ox py cs (f, hit)

/-- The rows `rs` of the sprite at address `i`, top first; stops at the bottom edge. -/
def drawRows (m : Memory) (i ox oy : Nat) : List Nat → Framebuffer × Bool → Framebuffer × Bool
  | [], acc => acc
  | r :: rs, acc =>
    if Config.fbHeight ≤ oy + r then acc
    else drawRows m i ox oy rs (drawColumns (m.read (i + r)) ox (oy + r) (List.range Config.spriteWidth) acc)

/-- Draw `n` rows with VF reset on entry: the new framebuffer, and whether a lit pixel was erased (R203). -/
def drawSprite (m : Memory) (i ox oy n : Nat) (f : Framebuffer) : Framebuffer × Bool :=
  drawRows m i ox oy (List.range n) (f, false)

end Sys2Proof.Machine
end

