-- ==== Sys2Proof/Machine/Display.lean ====
section
/-! DEFINITION. The display instructions (`43_display.md`). -/

namespace Sys2Proof.Machine

/-- CLS (R201). -/
def execCls (s : State) : Result := .next (s.setFb Framebuffer.clear)

/-- DRW Vx, Vy, n (R203): the origin is read before VF is reset (the spec's D11; log 11) and is not wrapped (D10;
log 10); the bound covers all `n` rows and is checked before drawing. -/
def execDrw (x y : Reg) (n : Nibble) (s : State) : Result :=
  if fits s.i (countOperand n) then
    let drawn := drawSprite s.mem s.i.toNat (s.reg x).toNat (s.reg y).toNat (countOperand n) s.fb
    .next ((s.setReg vf (collisionFlag drawn.2)).setFb drawn.1)
  else .next (s.fatal .spriteOutOfBounds (encode (.drw x y n)))

end Sys2Proof.Machine
end

