-- ==== Sys2Proof/Machine/IndexMemory.lean ====
section
/-! DEFINITION. The index register, font address, BCD and block transfers (`42_index_memory.md`). The whole range
is checked before any byte is touched (R170), and I is never modified by an access (the spec's D8; log 8). -/

namespace Sys2Proof.Machine

/-- LD I, nnn (R171). -/
def execLdI (nnn : Addr) (s : State) : Result := .next (s.setI (addrOperand nnn))

/-- ADD I, Vx (R172): wraps at 16 bits, VF not written (the spec's D9; log 9). -/
def execAddI (x : Reg) (s : State) : Result := .next (s.setI (s.i + s.regOperand x))

/-- LD F, Vx (R173). -/
def execLdF (x : Reg) (s : State) : Result := .next (s.setI (glyphAddress (s.reg x)))

/-- LD B, Vx (R174). -/
def execLdB (x : Reg) (s : State) : Result :=
  if fits s.i 3 then .next (s.setMem (s.mem.writeBytes s.i.toNat (bcdDigits (s.reg x))))
  else .next (s.fatal .bcdOutOfBounds (encode (.ldB x)))

/-- LD [I], Vx (R175). -/
def execStore (x : Reg) (s : State) : Result :=
  if fits s.i (blockCount x) then .next (s.setMem (s.mem.writeBytes s.i.toNat (s.regsUpTo x)))
  else .next (s.fatal .storeOutOfBounds (encode (.store x)))

/-- LD Vx, [I] (R176). -/
def execLoad (x : Reg) (s : State) : Result :=
  if fits s.i (blockCount x) then .next (s.loadUpTo s.i.toNat x)
  else .next (s.fatal .loadOutOfBounds (encode (.load x)))

end Sys2Proof.Machine
end

