-- ==== Sys2Proof/Machine/KeysTimers.lean ====
section
/-! DEFINITION. Key and timer instructions (`44_keys_timers.md`), and the actions of the two decrementers and of
the keyboard and the host (`60_exceptions.md` rules R273, R274, R288, R292). -/

namespace Sys2Proof.Machine

/-! ### Instructions -/

/-- SKP Vx (R231): the register value is passed to the keyboard unchanged (the spec's D13; log 13). -/
def execSkp (x : Reg) (s : State) : Result :=
  .next ((s.skipIf (Config.keyPressed s.draws (s.reg x))).nextDraw)

/-- SKNP Vx (R232). -/
def execSknp (x : Reg) (s : State) : Result :=
  .next ((s.skipIf (!Config.keyPressed s.draws (s.reg x))).nextDraw)

/-- LD Vx, DT (R233). -/
def execLdVxDt (x : Reg) (s : State) : Result := .next (s.setReg x s.dt)

/-- LD Vx, K (R234): the engine holds here; `keyNotification` and `hostShutdown` lift it. -/
def execLdVxK (x : Reg) (s : State) : Result := .next (s.setStatus (.blocked x))

/-- LD DT, Vx (R235). -/
def execLdDtVx (x : Reg) (s : State) : Result := .next (s.setDelay (s.reg x))

/-- LD ST, Vx (R236). -/
def execLdStVx (x : Reg) (s : State) : Result := .next (s.setSound (s.reg x))

/-! ### Actions of the other agents -/

/-- The end of a step that leaves the engine Running: the display is sent the framebuffer (R73; the spec's D22;
log 22). -/
def State.renderIfRunning (s : State) : State :=
  if s.status = .running then s.emit (.render s.fb) else s

/-- `Tick(DT)`, enabled while DT is Armed (R273). -/
def State.tickDelay (s : State) : State := if s.dt = 0 then s else s.setDelay (s.dt - 1)

/-- `Tick(ST)`, enabled while ST is Armed: one beep each (R273, R274). -/
def State.tickSound (s : State) : State :=
  if s.st = 0 then s else (s.setSound (s.st - 1)).emit (.beep beepMs)

/-- The shutdown is taken (R292). -/
def State.stop (s : State) : State := s.endRun .stopped .stopped

/-- The host sets shutdown_req; a Blocked engine takes it at once (R237, R292). -/
def State.hostShutdown (s : State) : State :=
  match s.status with
  | .blocked _ => s.requestShutdown.stop
  | .running | .notStarted | .finished | .stopped | .fault _ _ _ => s.requestShutdown

/-- A key notification completes a blocked LD Vx, K, and its step then renders (R234, R237, R269); at any other
time it has no effect (R265; log 32). -/
def State.keyNotification (s : State) (k : Key) : State :=
  match s.status with
  | .blocked x => ((s.setReg x (keyOperand k)).setStatus .running).renderIfRunning
  | .running | .notStarted | .finished | .stopped | .fault _ _ _ => s

end Sys2Proof.Machine
end

