-- ==== Sys2Proof/Machine/Engine.lean ====
section
/-! DEFINITION. The engine's step (`30_encoding.md` rules R70 to R73, R80): shutdown test, fetch bound, fetch,
advance, decode, execute, render; and whose action one step of the machine is. -/

namespace Sys2Proof.Machine

/-- The instruction word at pc, big-endian (R50). -/
def fetchWord (s : State) : Word := wordOfBytes (s.mem.read s.pc.toNat) (s.mem.read (s.pc.toNat + 1))

/-- An unknown word is reported and nothing else happens (R80, R262; the spec's D3; log 3). -/
def execUnknown (w : Word) (s : State) : Result := .next (s.emit (.diag (s.pc - 2) w))

/-- Decode the fetched word and execute it; pc is already advanced (R70). -/
def runWord (w : Word) (s : State) : Result :=
  match decodeWord w with
  | .ok i => exec i s
  | .error _ => execUnknown w s

/-- Is the engine held inside LD Vx, K (R237)? -/
def State.isBlocked (s : State) : Bool :=
  match s.status with
  | .blocked _ => true
  | .running | .notStarted | .finished | .stopped | .fault _ _ _ => false

/-- One engine step while the run lasts (R70): a pending shutdown is taken first, also by a Blocked engine (R237,
R292), which otherwise takes no step; then the fetch bound (R71); then fetch, advance, decode, execute, render. -/
def engineStep (s : State) : Result :=
  if s.shutdownReq then .next s.stop
  else if s.isBlocked then .next s
  else if Config.memSize < s.pc.toNat + 2 then .next (s.endRun .finished .finished)
  else onNext State.renderIfRunning (runWord (fetchWord s) s.advancePc)

/-- The action of the agent whose turn it is, while the run lasts (R11, R276). -/
def actionOf (t : Turn) (s : State) : Result :=
  match t with
  | .engine => engineStep s
  | .delayTick => .next s.tickDelay
  | .soundTick => .next s.tickSound
  | .keyPress k => .next (s.keyNotification k)
  | .shutdown => .next s.hostShutdown

/-- Why no agent acts any more, if the run has ended or never started (R10, R278; log 39). -/
def runEnded : Status → Option Fault
  | .running | .blocked _ => none
  | .notStarted => some .notStarted
  | .finished => some .runFinished
  | .stopped => some .runStopped
  | .fault kind a w => some (.runFaulted kind a w)

/-- One step of the machine: while the run lasts, the agent whose turn it is acts, and the schedule says who is
next (R11, R276; log 36). -/
def machineStep (s : State) : Result :=
  match runEnded s.status with
  | none => onNext State.passTurn (actionOf s.turn s)
  | some r => .fault r

/-- Where the next instruction is fetched; the entry point when nothing more can be fetched at pc (R71, R302). -/
def fetchAddress (s : State) : Nat := if s.pc.toNat + 2 ≤ Config.memSize then s.pc.toNat else Config.loadAddr

end Sys2Proof.Machine
end

