-- ==== Sys2Proof/WellFormed.lean ====
section
/-! DEFINITION. What is well formed. An instruction's fields are bounded by their types and the spec names
no illegal value of any field, so every term of `Instr` is well formed; the one term the spec refuses on its
form is a program image that is too long (`70_reset_and_hazards.md` rule R301). -/

namespace Sys2Proof

/-- Every register name, immediate, address and height of the field's width is legal (R21, R74, R75). -/
def Instr.wellFormed : Instr → Bool
  | .cls | .ret => true
  | .jp _ | .call _ | .ldI _ | .jpV0 _ => true
  | .seImm _ _ | .sneImm _ _ | .ldImm _ _ | .addImm _ _ | .rnd _ _ => true
  | .seReg _ _ | .sneReg _ _ | .ldReg _ _ | .orReg _ _ | .andReg _ _ | .xorReg _ _ => true
  | .addReg _ _ | .subReg _ _ | .shr _ _ | .subn _ _ | .shl _ _ => true
  | .drw _ _ _ => true
  | .skp _ | .sknp _ | .ldVxDt _ | .ldVxK _ | .ldDtVx _ | .ldStVx _ => true
  | .addI _ | .ldF _ | .ldB _ | .store _ | .load _ => true

/-- An image loads when it fits between the load offset and the end of memory (R301). -/
def imageWellFormed (image : List Byte) : Bool :=
  decide (image.length ≤ Config.maxImage)

end Sys2Proof
end

