-- ==== Sys2Proof/Machine/Load.lean ====
section
/-! DEFINITION. Construction and image load by the host (`70_reset_and_hazards.md` rules R300 to R302,
`60_exceptions.md` rules R263, R291). -/

namespace Sys2Proof.Machine

/-- The machine when the engine starts with this image, or NotStarted when the image is too long; all or nothing
(R301; the spec's D35; log 35). -/
def boot (image : List Byte) : State :=
  if imageWellFormed image then
    State.reset.setMem (State.reset.mem.writeBytes Config.loadAddr image)
  else (State.reset.setStatus .notStarted).emit (.loadRejected image.length)

end Sys2Proof.Machine
end

