-- ==== Sys2Proof/Machine/Step.lean ====
section
/-! DEFINITION. One step of the machine, and the host's way to place an instruction for it. -/

namespace Sys2Proof.Machine

/-- One step: the action of one agent (Machine/Engine.lean). -/
def step (s : State) : Host.Outcome State Fault Refusal := machineStep s

/-- `s` with the table word stored where the next fetch reads it, and with all that the very next step needs to
fetch and run it: the engine's turn, Running, no shutdown pending, a pc inside the fetch bound. -/
def State.withFetchWord (s : State) (nbits w : Nat) : State :=
  { s with
    mem := s.mem.writeBytes (fetchAddress s) (tableBytes nbits w)
    pc := BitVec.ofNat 16 (fetchAddress s)
    status := .running
    shutdownReq := false
    turn := .engine }

end Sys2Proof.Machine
end

