-- ==== Sys2Proof/Safety.lean ====
section
/-! DEFINITION. The terms in which claims speak: the invariant of a run (`10_state.md` rule R38), which
instruction reads and writes which registers (R23), which error each can raise (`60_exceptions.md` rule R261), and
what an instruction leaves unchanged. -/

namespace Sys2Proof.Machine

/-! ### The invariant -/

/-- Has a fatal error ended the run? The source calls the state undefined then, and no claim reads more of it than
`status` and the events sent (R260; log 34). -/
def State.faulted (s : State) : Bool :=
  match s.status with
  | .fault _ _ _ => true
  | .running | .blocked _ | .notStarted | .finished | .stopped => false

/-- What holds of every state of a run in which no fatal error has occurred. -/
structure State.Consistent (s : State) : Prop where
  /-- Memory is in its canonical form, inside the address space (R20). -/
  memory : s.mem.wf
  /-- "Invariant: pointer never exceeds capacity" (R26, R38). -/
  stackPointer : s.sp.toNat ≤ 16
  /-- The largest value any rule can give pc (R25). -/
  programCounter : s.pc.toNat ≤ 0x10FE
  /-- A return address is an advanced pc, so at most 4096 (R72, R103). -/
  returnAddresses : ∀ a ∈ s.stack.toList, a.toNat ≤ 0x1000
  /-- Both timers are Idle before the run starts (R278). -/
  idleBeforeStart : s.status = .notStarted → s.dt = 0 ∧ s.st = 0
  /-- A Blocked engine takes a shutdown at once, so none is pending (R292). -/
  noPendingShutdown : ∀ x, s.status = .blocked x → s.shutdownReq = false

/-- The invariant; nothing is claimed of a faulted state (R38, R260). -/
def State.Inv (s : State) : Prop := s.faulted = false → s.Consistent

/-! ### Registers read and written (R23) -/

/-- V0 to Vx, x included. -/
def regsTo (x : Reg) : List Reg := (List.finRange 16).filter (fun k => decide (k ≤ x))

/-- The registers an instruction reads. -/
def readsRegs : Instr → List Reg
  | .cls | .ret | .jp _ | .call _ | .ldI _ => []
  | .seImm x _ | .sneImm x _ | .addImm x _ => [x]
  | .ldImm _ _ | .rnd _ _ => []
  | .ldReg _ y => [y]
  | .seReg x y | .sneReg x y | .orReg x y | .andReg x y | .xorReg x y => [x, y]
  | .addReg x y | .subReg x y | .subn x y | .drw x y _ => [x, y]
  | .shr x _ | .shl x _ => [x]
  | .jpV0 _ => [0]
  | .skp x | .sknp x | .ldDtVx x | .ldStVx x | .addI x | .ldF x | .ldB x => [x]
  | .ldVxDt _ | .ldVxK _ | .load _ => []
  | .store x => regsTo x

/-- The registers an instruction writes when it completes; LD Vx, K writes Vx only when the key arrives (R234), so
its own execution writes none. -/
def writesRegs : Instr → List Reg
  | .cls | .ret | .jp _ | .call _ | .ldI _ | .jpV0 _ => []
  | .seImm _ _ | .sneImm _ _ | .seReg _ _ | .sneReg _ _ | .skp _ | .sknp _ => []
  | .ldImm x _ | .addImm x _ | .rnd x _ | .ldReg x _ => [x]
  | .orReg x _ | .andReg x _ | .xorReg x _ | .ldVxDt x => [x]
  | .addReg x _ | .subReg x _ | .subn x _ | .shr x _ | .shl x _ => [x, vf]
  | .drw _ _ _ => [vf]
  | .ldVxK _ | .ldDtVx _ | .ldStVx _ | .addI _ | .ldF _ | .ldB _ | .store _ => []
  | .load x => regsTo x

/-! ### Errors (R261) -/

/-- The fatal error an instruction raises in a state, by the table of R261. -/
def errorOf (i : Instr) (s : State) : Option FatalKind :=
  match i with
  | .ret => if s.sp.toNat = 0 then some .stackUnderflow else none
  | .call _ => if s.sp.toNat = 16 then some .stackOverflow else none
  | .drw _ _ n => if s.i.toNat + n.toNat > 4096 then some .spriteOutOfBounds else none
  | .ldB _ => if s.i.toNat + 3 > 4096 then some .bcdOutOfBounds else none
  | .store x => if s.i.toNat + x.val + 1 > 4096 then some .storeOutOfBounds else none
  | .load x => if s.i.toNat + x.val + 1 > 4096 then some .loadOutOfBounds else none
  | .cls | .jp _ | .seImm _ _ | .sneImm _ _ | .seReg _ _ | .sneReg _ _ | .jpV0 _ => none
  | .ldImm _ _ | .addImm _ _ | .ldReg _ _ | .orReg _ _ | .andReg _ _ | .xorReg _ _ => none
  | .addReg _ _ | .subReg _ _ | .shr _ _ | .subn _ _ | .shl _ _ | .rnd _ _ => none
  | .ldI _ | .addI _ | .ldF _ | .skp _ | .sknp _ => none
  | .ldVxDt _ | .ldVxK _ | .ldDtVx _ | .ldStVx _ => none

/-- The events of a run's end: its status event, then Shutdown to display, keyboard and sound (R293). -/
def endEvents (e : Event) : List Event := [e, .shutdown .display, .shutdown .keyboard, .shutdown .sound]

/-- `t` is what `raise Fatal(kind, a, w)` leaves of `s`: the recorded status and the events, and no more (R260). -/
def FatalEntry (kind : FatalKind) (w : Word) (s t : State) : Prop :=
  t.status = .fault kind (s.pc - 2) w ∧ t.out = s.out ++ endEvents (.fault kind (s.pc - 2) w)

/-! ### Frames -/

/-- Every byte of memory reads as before. -/
def SameReads (s t : State) : Prop := ∀ a, t.mem.read a = s.mem.read a

/-- Every byte outside `count` bytes from `base` reads as before. -/
def SameReadsOutside (base count : Nat) (s t : State) : Prop :=
  ∀ a, (a < base ∨ base + count ≤ a) → t.mem.read a = s.mem.read a

/-- Nothing changes but the registers `ws`. -/
def OnlyRegs (ws : List Reg) (s t : State) : Prop :=
  t = { s with v := t.v } ∧ (∀ r, r ∉ ws → t.reg r = s.reg r) ∧ SameReads s t

/-- Nothing changes but pc. -/
def OnlyPc (s t : State) : Prop := t = { s with pc := t.pc } ∧ SameReads s t

/-- Nothing changes but I. -/
def OnlyIndex (s t : State) : Prop := t = { s with i := t.i } ∧ SameReads s t

/-- Nothing changes but the `count` bytes stored from `base`. -/
def OnlyBytes (base count : Nat) (s t : State) : Prop :=
  t = { s with mem := t.mem } ∧ SameReadsOutside base count s t

/-! ### What memory holds after a store (R174, R175) -/

/-- The byte at `a` after `LD [I], Vx`: V0 to Vx from I upward, elsewhere as before. -/
def blockByte (s : State) (x : Reg) (a : Nat) : Byte :=
  if s.i.toNat ≤ a ∧ a ≤ s.i.toNat + x.val then s.reg (Fin.ofNat 16 (a - s.i.toNat)) else s.mem.read a

/-- The byte at `a` after `LD B, Vx`: hundreds, tens and ones from I upward, elsewhere as before. -/
def bcdByte (s : State) (x : Reg) (a : Nat) : Byte :=
  if a = s.i.toNat then BitVec.ofNat 8 ((s.reg x).toNat / 100)
  else if a = s.i.toNat + 1 then BitVec.ofNat 8 ((s.reg x).toNat / 10 % 10)
  else if a = s.i.toNat + 2 then BitVec.ofNat 8 ((s.reg x).toNat % 10)
  else s.mem.read a

/-! ### Sprites (R202 to R204) -/

/-- Does the sprite of `DRW Vx, Vy, n` have a 1 bit on the pixel in column `px`, row `py`? The origin and the
columns and rows are integers, with no wrap. -/
def spriteCovers (s : State) (x y : Reg) (n : Nibble) (px py : Nat) : Bool :=
  let ox := (s.reg x).toNat
  let oy := (s.reg y).toNat
  decide (ox ≤ px ∧ px < ox + 8 ∧ oy ≤ py ∧ py < oy + n.toNat) &&
    (s.mem.read (s.i.toNat + (py - oy))).getLsbD (7 - (px - ox))

end Sys2Proof.Machine
end

