-- ==== Sys2Proof/Certificates/Slice0/Obligations.lean ====
section
/-! DEFINITION. The statements for the provers. Statements whose docstring names a decision D<n> of
`spec/92_eei_decisions.md`, or a log entry, rest on it: it is the spec's own or the model's own choice. The opcode
values everywhere are decision D1 (log 1). -/

open Sys2Proof Sys2Proof.Machine

/-! ### Encoding -/

/-- R82, R77: decoding an encoded instruction gives it back, with every operand, and leaves the bytes that follow.
Which numbers stand for which instruction is D1. -/
def Obligations.DecodeOfEncodedInstruction : Prop :=
  ∀ i : Instr, decodeWord (encode i) = .ok i ∧
    ∀ rest, decodeBytes (encodeBytes i ++ rest) = .ok (i, rest)

/-- R82, R78: a word decodes to at most one instruction, and that instruction encodes to the word again (log 42
rests on it). -/
def Obligations.EncodeOfDecodedWord : Prop :=
  ∀ (w : Word) (i : Instr), decodeWord w = .ok i → encode i = w

/-- R77, R79, R82: a word decodes to an instruction exactly when it matches a row of the opcode table, the row of
that instruction; a word that matches no row is unknown, and named. Strict matching is D2 (log 2). -/
def Obligations.DecodeFollowsOpcodeTable : Prop :=
  ∀ w : Word,
    (∀ i, decodeWord w = .ok i → ∃ r ∈ opcodeRows, r.mnemonic = i.mnemonic ∧ r.Matches w) ∧
    (∀ r ∈ opcodeRows, r.Matches w → ∃ i, decodeWord w = .ok i ∧ i.mnemonic = r.mnemonic) ∧
    ((∀ r ∈ opcodeRows, ¬ r.Matches w) → decodeWord w = .error (.unknownWord w))

/-- R78: no two rows match the same word. -/
def Obligations.NoWordMatchesTwoRows : Prop :=
  ∀ w : Word, ∀ r ∈ opcodeRows, ∀ r' ∈ opcodeRows, r.Matches w → r'.Matches w → r = r'

/-- R77, R79: words written out from the table, one for each family, and unknown words of each kind (the spec's
vectors T6 to T8). -/
def Obligations.SpecWordsDecode : Prop :=
  decodeWord 0x00E0 = .ok .cls ∧ decodeWord 0x00EE = .ok .ret ∧ decodeWord 0x1300 = .ok (.jp 0x300) ∧
  decodeWord 0x2300 = .ok (.call 0x300) ∧ decodeWord 0x3110 = .ok (.seImm 1 0x10) ∧
  decodeWord 0x4110 = .ok (.sneImm 1 0x10) ∧ decodeWord 0x5230 = .ok (.seReg 2 3) ∧
  decodeWord 0x652A = .ok (.ldImm 5 0x2A) ∧ decodeWord 0x7102 = .ok (.addImm 1 0x02) ∧
  decodeWord 0x8AB4 = .ok (.addReg 0xA 0xB) ∧ decodeWord 0x8AAE = .ok (.shl 0xA 0xA) ∧
  decodeWord 0x9230 = .ok (.sneReg 2 3) ∧ decodeWord 0xA300 = .ok (.ldI 0x300) ∧
  decodeWord 0xBFFF = .ok (.jpV0 0xFFF) ∧ decodeWord 0xC30F = .ok (.rnd 3 0x0F) ∧
  decodeWord 0xD015 = .ok (.drw 0 1 5) ∧ decodeWord 0xE19E = .ok (.skp 1) ∧ decodeWord 0xF165 = .ok (.load 1) ∧
  decodeWord 0x0000 = .error (.unknownWord 0x0000) ∧ decodeWord 0x0123 = .error (.unknownWord 0x0123) ∧
  decodeWord 0x5121 = .error (.unknownWord 0x5121) ∧ decodeWord 0x9121 = .error (.unknownWord 0x9121) ∧
  decodeWord 0x8128 = .error (.unknownWord 0x8128) ∧ decodeWord 0x812F = .error (.unknownWord 0x812F) ∧
  decodeWord 0xE19F = .error (.unknownWord 0xE19F) ∧ decodeWord 0xF100 = .error (.unknownWord 0xF100) ∧
  decodeWord 0xF1FF = .error (.unknownWord 0xF1FF)

/-- R74: the six fields are fixed bit slices of the one 16-bit word. -/
def Obligations.WordFieldsAreBitSlices : Prop :=
  ∀ w : Word,
    (opField w).toNat = w.toNat / 4096 ∧ (nnnField w).toNat = w.toNat % 4096 ∧
    (xField w).val = w.toNat / 256 % 16 ∧ (yField w).val = w.toNat / 16 % 16 ∧
    (kkField w).toNat = w.toNat % 256 ∧ (nField w).toNat = w.toNat % 16

/-- R50: `mem[pc]` supplies bits 15..8 of the instruction word and `mem[pc+1]` bits 7..0. -/
def Obligations.FetchIsBigEndian : Prop :=
  ∀ s : State,
    (fetchWord s).toNat = (s.mem.read s.pc.toNat).toNat * 256 + (s.mem.read (s.pc.toNat + 1)).toNat

/-! ### The step -/

/-- R70 to R73: on the engine's turn, Running, with no shutdown pending and pc inside the fetch bound, a step runs
the decoded instruction on the state with pc advanced by 2, then renders if it still Runs; then the turn passes
(the model's own, log 36). -/
def Obligations.StepRunsDecodedInstruction : Prop :=
  ∀ (s : State) (i : Instr),
    s.status = .running → s.turn = .engine → s.shutdownReq = false → s.pc.toNat + 2 ≤ 4096 →
    decodeWord (fetchWord s) = .ok i →
    step s = onNext State.passTurn (onNext State.renderIfRunning (exec i { s with pc := s.pc + 2 })) ∧
    (s.pc + 2).toNat = s.pc.toNat + 2

/-- R80, R262: an unknown word is reported with its address and itself, and the run continues with the step's render
and the next instruction; nothing else changes. The report and the skip are D3 (log 3), the render is D22 (log 22), the
turn that passes is the model's own (log 36). -/
def Obligations.StepReportsUnknownWord : Prop :=
  ∀ (s : State) (e : DecodeError),
    s.status = .running → s.turn = .engine → s.shutdownReq = false → s.pc.toNat + 2 ≤ 4096 →
    decodeWord (fetchWord s) = .error e →
    ∃ t, step s = .next t ∧
      t = { s with
        pc := s.pc + 2
        out := s.out ++ [.diag s.pc (fetchWord s), .render s.fb]
        turn := t.turn
        moves := t.moves }

/-- R71, R293: past the fetch bound the run is Finished: nothing but the status and the events of the end (Finished
as the only clean end is D29, the Shutdown events are D26). -/
def Obligations.FetchBoundFinishesRun : Prop :=
  ∀ s : State,
    s.status = .running → s.turn = .engine → s.shutdownReq = false → 4096 < s.pc.toNat + 2 →
    ∃ t, step s = .next t ∧
      t = { s with status := .finished, out := s.out ++ endEvents .finished, turn := t.turn, moves := t.moves }

/-- R292, R237, R293: a requested shutdown stops the run at the head of the engine's next step; a Blocked engine is
stopped at once; otherwise the host's action only sets the request. Nothing else is written (D26, log 26). -/
def Obligations.ShutdownStopsRun : Prop :=
  ∀ s : State,
    (s.status = .running → s.turn = .engine → s.shutdownReq = true →
      ∃ t, step s = .next t ∧
        t = { s with status := .stopped, out := s.out ++ endEvents .stopped, turn := t.turn, moves := t.moves }) ∧
    (∀ x, s.status = .blocked x → s.turn = .shutdown →
      ∃ t, step s = .next t ∧
        t = { s with
          status := .stopped
          shutdownReq := true
          out := s.out ++ endEvents .stopped
          turn := t.turn
          moves := t.moves }) ∧
    (s.status = .running → s.turn = .shutdown →
      ∃ t, step s = .next t ∧ t = { s with shutdownReq := true, turn := t.turn, moves := t.moves })

/-- R10, R263, R278: after Finished, Fault or Stopped, and before a start that never comes, no agent steps. That the
model answers this with a named fault is its own choice (log 39). -/
def Obligations.EndedRunTakesNoStep : Prop :=
  ∀ s : State,
    (s.status = .finished → step s = .fault .runFinished) ∧
    (s.status = .stopped → step s = .fault .runStopped) ∧
    (s.status = .notStarted → step s = .fault .notStarted) ∧
    (∀ kind a w, s.status = .fault kind a w → step s = .fault (.runFaulted kind a w))

/-- R73: an engine step that ends Running sends exactly one Render, last, with the framebuffer as the step left it;
one that ends otherwise sends none (which steps render is D22, log 22). -/
def Obligations.EveryRunningStepRendersOnce : Prop :=
  ∀ s t : State, s.status = .running → s.turn = .engine → step s = .next t →
    ∃ evs : List Event, (∀ e ∈ evs, ∀ f, e ≠ .render f) ∧
      (t.status = .running → t.out = s.out ++ evs ++ [.render t.fb]) ∧
      (t.status ≠ .running → t.out = s.out ++ evs)

/-! ### Reset and load -/

/-- R302, R37: the entry point is 0x0200, the run status is Running, the stack is empty and its entries are 0, both
timers are Idle, no shutdown is requested and no event was sent. The zeros are D15 (log 15), the clear request is D26
(log 26), the count reading of sp is D18 (log 18), the empty event history is the model's own (log 43). -/
def Obligations.ResetEntersAtLoadOffset : Prop :=
  State.reset.pc.toNat = 0x0200 ∧ State.reset.status = .running ∧
  State.reset.sp = 0 ∧ (∀ j : Fin 16, State.reset.stack[j] = 0) ∧
  State.reset.dt = 0 ∧ State.reset.st = 0 ∧ State.reset.shutdownReq = false ∧ State.reset.out = []

/-- R37, R31, R56, R300: at reset the bytes 0 to 79 are those of the default FONT, glyph by glyph, and every other
byte is 0x00; the registers are zero and the framebuffer is dark. The values are D15 to D17 (log 15, log 16, log 17). -/
def Obligations.ResetMemoryHoldsFont : Prop :=
  (List.range 80).map (fun a => State.reset.mem.read a) =
    [0xF0, 0x90, 0x90, 0x90, 0xF0] ++ [0x20, 0x60, 0x20, 0x20, 0x70] ++ [0xF0, 0x10, 0xF0, 0x80, 0xF0] ++
    [0xF0, 0x10, 0xF0, 0x10, 0xF0] ++ [0x90, 0x90, 0xF0, 0x10, 0x10] ++ [0xF0, 0x80, 0xF0, 0x10, 0xF0] ++
    [0xF0, 0x80, 0xF0, 0x90, 0xF0] ++ [0xF0, 0x10, 0x20, 0x40, 0x40] ++ [0xF0, 0x90, 0xF0, 0x90, 0xF0] ++
    [0xF0, 0x90, 0xF0, 0x10, 0xF0] ++ [0xF0, 0x90, 0xF0, 0x90, 0x90] ++ [0xE0, 0x90, 0xE0, 0x90, 0xE0] ++
    [0xF0, 0x80, 0x80, 0x80, 0xF0] ++ [0xE0, 0x90, 0x90, 0x90, 0xE0] ++ [0xF0, 0x80, 0xF0, 0x80, 0xF0] ++
    [0xF0, 0x80, 0xF0, 0x80, 0x80] ∧
  (∀ a, 80 ≤ a → State.reset.mem.read a = 0) ∧
  (∀ r, State.reset.reg r = 0) ∧ State.reset.i = 0 ∧
  (∀ x y, Framebuffer.pixel State.reset.fb x y = false)

/-- R301, R263, R37: an image of at most 3584 bytes is loaded verbatim at 512 and the whole rest of the state is as
at reset; a longer one is rejected, writes nothing, and the run does not start: only the status and the report differ
from reset (D35, log 35). What reset leaves is said by ResetEntersAtLoadOffset and ResetMemoryHoldsFont. -/
def Obligations.ImageLoadsVerbatim : Prop :=
  ∀ image : List Byte,
    (image.length ≤ 3584 →
      boot image = { State.reset with mem := (boot image).mem } ∧
      (boot image).status = .running ∧ (boot image).pc.toNat = 0x0200 ∧
      (∀ k, (h : k < image.length) → (boot image).mem.read (512 + k) = image[k]) ∧
      (∀ a, (a < 512 ∨ 512 + image.length ≤ a) → (boot image).mem.read a = State.reset.mem.read a)) ∧
    (3584 < image.length →
      boot image = { State.reset with
        mem := (boot image).mem
        status := .notStarted
        out := [.loadRejected image.length] } ∧
      (∀ a, (boot image).mem.read a = State.reset.mem.read a))

/-! ### Invariant and progress -/

/-- R38: the invariant holds at reset. -/
def Obligations.InvariantHoldsAtReset : Prop := State.reset.Inv

/-- R38, R301: the invariant holds after loading any image, an accepted or a rejected one. -/
def Obligations.InvariantHoldsAfterLoad : Prop := ∀ image : List Byte, (boot image).Inv

/-- R38, R20, R25 to R27, R278, R292: every step keeps the invariant (memory canonical and inside 0..4095, sp at
most 16, pc at most 0x10FE, return addresses at most 4096, Idle timers before a start, no shutdown pending while
Blocked). -/
def Obligations.StepKeepsInvariant : Prop :=
  ∀ s t : State, s.Inv → step s = .next t → t.Inv

/-- The end of Part 1 of `93_implementation_defined.md` (no instruction and no input is refused) with R10: from a
state with the invariant, a step answers a next state exactly while the run lasts. -/
def Obligations.StepAnswersWhileRunLasts : Prop :=
  ∀ s : State, s.Inv →
    ((∃ t, step s = .next t) ↔ (s.status = .running ∨ ∃ x, s.status = .blocked x))

/-! ### Whole-machine rules: who writes what -/

/-- R53, R20: no instruction but LD B and LD [I] changes a byte of memory. -/
def Obligations.OnlyStoresChangeMemory : Prop :=
  ∀ (i : Instr) (s t : State), exec i s = .next t → t.faulted = false →
    (∀ x, i ≠ .ldB x) → (∀ x, i ≠ .store x) → SameReads s t

/-- R28: the framebuffer is written only by CLS and DRW. -/
def Obligations.OnlyDisplayInstructionsDraw : Prop :=
  ∀ (i : Instr) (s t : State), exec i s = .next t → t.faulted = false →
    i ≠ .cls → (∀ x y n, i ≠ .drw x y n) → t.fb = s.fb

/-- R26, R27, R109: no instruction reads or writes the stack and sp except CALL and RET: with other values in them it
leaves the same in every other part of the state. CALL grows the stack by one, RET shrinks it by one and keeps every
entry (the count reading of sp is D18, log 18). -/
def Obligations.OnlyCallAndRetMoveStack : Prop :=
  ∀ (i : Instr) (s t : State), exec i s = .next t → t.faulted = false →
    ((∀ nnn, i ≠ .call nnn) → i ≠ .ret → t.sp = s.sp) ∧
    ((∀ nnn, i ≠ .call nnn) → t.stack = s.stack) ∧
    ((∃ nnn, i = .call nnn) → t.sp.toNat = s.sp.toNat + 1) ∧
    (i = .ret → t.sp.toNat + 1 = s.sp.toNat) ∧
    ((∀ nnn, i ≠ .call nnn) → i ≠ .ret →
      ∀ stack' sp', exec i { s with stack := stack', sp := sp' } = .next { t with stack := stack', sp := sp' })

/-- R24: I is written only by LD I, nnn, ADD I, Vx and LD F, Vx. -/
def Obligations.OnlyIndexInstructionsWriteI : Prop :=
  ∀ (i : Instr) (s t : State), exec i s = .next t → t.faulted = false →
    (∀ nnn, i ≠ .ldI nnn) → (∀ x, i ≠ .addI x) → (∀ x, i ≠ .ldF x) → t.i = s.i

/-- R25, R100 to R108: only control transfers and key skips change the advanced pc. -/
def Obligations.OnlyControlTransfersChangePc : Prop :=
  ∀ (i : Instr) (s t : State), exec i s = .next t → t.faulted = false →
    t.pc ≠ s.pc →
    (i = .ret ∨ (∃ nnn, i = .jp nnn) ∨ (∃ nnn, i = .call nnn) ∨ (∃ nnn, i = .jpV0 nnn) ∨
      ((∃ x kk, i = .seImm x kk) ∨ (∃ x kk, i = .sneImm x kk) ∨ (∃ x y, i = .seReg x y) ∨
        (∃ x y, i = .sneReg x y) ∨ (∃ x, i = .skp x) ∨ (∃ x, i = .sknp x)) ∧ t.pc = s.pc + 2)

/-- R29, R35: among the instructions only LD DT, Vx writes DT, only LD ST, Vx writes ST, and none writes
shutdown_req; the model's own turn fields (log 36) are not an instruction's either. -/
def Obligations.OnlyTimerInstructionsWriteTimers : Prop :=
  ∀ (i : Instr) (s t : State), exec i s = .next t → t.faulted = false →
    ((∀ x, i ≠ .ldDtVx x) → t.dt = s.dt) ∧ ((∀ x, i ≠ .ldStVx x) → t.st = s.st) ∧
    t.shutdownReq = s.shutdownReq ∧ t.turn = s.turn ∧ t.moves = s.moves

/-- R22, R23: an instruction that completes (VF among the registers: only ADD, SUB, SHR, SUBN, SHL and DRW write it
without naming it) depends on no general register outside its reads and changes none
outside its writes: with other values in the registers it does not read, it leaves the same in its written registers
and in every other part of the state. That VF holds the flag when it is the destination too, that the shifts do not
read Vy and that the logic does not write VF are D4, D5 and D7 (log 4, log 5, log 7). -/
def Obligations.RegisterReadersAndWriters : Prop :=
  ∀ (i : Instr) (s t : State) (v' : Vector Byte 16),
    exec i s = .next t → t.faulted = false →
    (∀ r ∈ readsRegs i, v'[r] = s.v[r]) →
    (∀ r, r ∉ writesRegs i → t.reg r = s.reg r) ∧
    ∃ t', exec i { s with v := v' } = .next t' ∧ t' = { t with v := t'.v } ∧
      (∀ r ∈ writesRegs i, t'.reg r = t.reg r) ∧ (∀ r, r ∉ writesRegs i → t'.reg r = v'[r])

/-- R261, R264: with sp in its range every instruction answers a next state, and it is a fatal error exactly where
the table of errors says, with the kind it says (the bounds' order before any write is D23, the recording D34). -/
def Obligations.ErrorsExactlyAsListed : Prop :=
  ∀ (i : Instr) (s : State), s.faulted = false → s.sp.toNat ≤ 16 →
    ∃ t, exec i s = .next t ∧
      (∀ kind, errorOf i s = some kind → FatalEntry kind (encode i) s t) ∧
      (errorOf i s = none → t.faulted = false)

/-- R260, R293: a fatal error records the address and the word of the instruction that was fetched, sends the Fault
event and then Shutdown to the three devices, and does not render (D34, D26). -/
def Obligations.FatalErrorRecordsFetchedWord : Prop :=
  ∀ (s t : State) (kind : FatalKind) (a w : Word),
    s.status = .running → s.turn = .engine → s.shutdownReq = false → s.pc.toNat + 2 ≤ 4096 →
    step s = .next t → t.status = .fault kind a w →
    a = s.pc ∧ w = fetchWord s ∧ t.out = s.out ++ endEvents (.fault kind a w)

/-- R269: the asynchronous inputs and their only effects: a tick decrements its one armed counter (and beeps, for
ST), a key notification completes a blocked LD Vx, K, a shutdown sets the request or stops a Blocked engine. None of
them changes pc, memory, the stack or the framebuffer, and no register but the blocked instruction's Vx. -/
def Obligations.AsynchronousInputsHaveOnlyTheirEffects : Prop :=
  ∀ s t : State, step s = .next t →
    (s.turn = .delayTick →
      t = { s with dt := t.dt, turn := t.turn, moves := t.moves } ∧ t.dt.toNat = s.dt.toNat - 1) ∧
    (s.turn = .soundTick →
      t = { s with st := t.st, out := t.out, turn := t.turn, moves := t.moves } ∧ t.st.toNat = s.st.toNat - 1 ∧
      t.out = if s.st = 0 then s.out else s.out ++ [.beep beepMs]) ∧
    (∀ k, s.turn = .keyPress k →
      t = { s with v := t.v, status := .running, out := t.out, turn := t.turn, moves := t.moves } ∧
      (s.status = .running → t.v = s.v ∧ t.out = s.out) ∧
      (∀ x, s.status = .blocked x → (t.reg x).toNat = k.val ∧ ∀ r, r ≠ x → t.reg r = s.reg r)) ∧
    (s.turn = .shutdown →
      t = { s with shutdownReq := true, status := t.status, out := t.out, turn := t.turn, moves := t.moves } ∧
      (s.status = .running → t.status = .running ∧ t.out = s.out) ∧
      (∀ x, s.status = .blocked x → t.status = .stopped))

/-- R64, R51, R307: a later fetch reads the bytes that LD [I], Vx or LD B, Vx stored, both, one or none of the two it
reads: whatever ran in between, as long as it left these two bytes alone. That nothing protects the code is D25
(log 25). -/
def Obligations.FetchSeesEarlierStores : Prop :=
  (∀ (x : Reg) (s : State), s.i.toNat + x.val + 1 ≤ 4096 →
    ∃ t, exec (.store x) s = .next t ∧
      ∀ u : State,
        u.mem.read u.pc.toNat = t.mem.read u.pc.toNat → u.mem.read (u.pc.toNat + 1) = t.mem.read (u.pc.toNat + 1) →
        (fetchWord u).toNat =
          (blockByte s x u.pc.toNat).toNat * 256 + (blockByte s x (u.pc.toNat + 1)).toNat) ∧
  (∀ (x : Reg) (s : State), s.i.toNat + 3 ≤ 4096 →
    ∃ t, exec (.ldB x) s = .next t ∧
      ∀ u : State,
        u.mem.read u.pc.toNat = t.mem.read u.pc.toNat → u.mem.read (u.pc.toNat + 1) = t.mem.read (u.pc.toNat + 1) →
        (fetchWord u).toNat = (bcdByte s x u.pc.toNat).toNat * 256 + (bcdByte s x (u.pc.toNat + 1)).toNat)

/-! ### Control transfer -/

/-- R101: RET pops the newest return address into pc and keeps the entry; on an empty stack it is StackUnderflow. The
count reading of sp is D18 (log 18); the stop on sp above 16 is the model's own (log 40). -/
def Obligations.RetPopsReturnAddress : Prop :=
  encode .ret = 0x00EE ∧
  ∀ s : State,
    (s.sp.toNat = 0 → ∃ t, exec .ret s = .next t ∧ FatalEntry .stackUnderflow 0x00EE s t) ∧
    (0 < s.sp.toNat → s.sp.toNat ≤ 16 →
      ∃ t, exec .ret s = .next t ∧ t = { s with sp := t.sp, pc := t.pc } ∧ SameReads s t ∧
        t.sp.toNat + 1 = s.sp.toNat ∧ s.stack[s.sp.toNat - 1]? = some t.pc) ∧
    (16 < s.sp.toNat → exec .ret s = .fault (.stackPointerRange s.sp))

/-- R102: JP nnn sets pc to the zero-extended address, odd ones and the font region included. -/
def Obligations.JumpSetsPc : Prop :=
  ∀ (nnn : Addr) (s : State), (encode (.jp nnn)).toNat = 0x1000 + nnn.toNat ∧
    ∃ t, exec (.jp nnn) s = .next t ∧ OnlyPc s t ∧ t.pc.toNat = nnn.toNat

/-- R103: CALL nnn pushes the advanced pc and jumps; with 16 return addresses on the stack it is StackOverflow (D18,
log 18; the stop on sp above 16 is the model's own, log 40). -/
def Obligations.CallPushesReturnAddress : Prop :=
  ∀ (nnn : Addr) (s : State), (encode (.call nnn)).toNat = 0x2000 + nnn.toNat ∧
    (s.sp.toNat = 16 → ∃ t, exec (.call nnn) s = .next t ∧ FatalEntry .stackOverflow (encode (.call nnn)) s t) ∧
    (s.sp.toNat < 16 →
      ∃ t, exec (.call nnn) s = .next t ∧ t = { s with stack := t.stack, sp := t.sp, pc := t.pc } ∧ SameReads s t ∧
        t.stack[s.sp.toNat]? = some s.pc ∧ (∀ j : Nat, j ≠ s.sp.toNat → t.stack[j]? = s.stack[j]?) ∧
        t.sp.toNat = s.sp.toNat + 1 ∧ t.pc.toNat = nnn.toNat) ∧
    (16 < s.sp.toNat → exec (.call nnn) s = .fault (.stackPointerRange s.sp))

/-- R103's sentence "Call then return": after CALL, whatever runs in between, a RET that finds the stack as CALL left
it restores pc to the pushed address and sp to its value before the call. -/
def Obligations.CallThenReturnRestores : Prop :=
  ∀ (nnn : Addr) (s : State), s.sp.toNat < 16 →
    ∃ t, exec (.call nnn) s = .next t ∧
      ∀ t' : State, t'.stack = t.stack → t'.sp = t.sp →
        ∃ u, exec .ret t' = .next u ∧ u.pc = s.pc ∧ u.sp = s.sp

/-- R104, R105: SE Vx, kk skips when the register equals the immediate, SNE Vx, kk when it does not; nothing but pc
changes. -/
def Obligations.ImmediateSkips : Prop :=
  ∀ (x : Reg) (kk : Byte) (s : State),
    (encode (.seImm x kk)).toNat = 0x3000 + x.val * 256 + kk.toNat ∧
    (encode (.sneImm x kk)).toNat = 0x4000 + x.val * 256 + kk.toNat ∧
    (∃ t, exec (.seImm x kk) s = .next t ∧ OnlyPc s t ∧
      (s.reg x = kk → t.pc = s.pc + 2) ∧ (s.reg x ≠ kk → t.pc = s.pc)) ∧
    (∃ t, exec (.sneImm x kk) s = .next t ∧ OnlyPc s t ∧
      (s.reg x ≠ kk → t.pc = s.pc + 2) ∧ (s.reg x = kk → t.pc = s.pc))

/-- R106, R107: SE Vx, Vy skips when the registers are equal, SNE Vx, Vy when they are not (the fixed low nibble is
D2, log 2). -/
def Obligations.RegisterSkips : Prop :=
  ∀ (x y : Reg) (s : State),
    (encode (.seReg x y)).toNat = 0x5000 + x.val * 256 + y.val * 16 ∧
    (encode (.sneReg x y)).toNat = 0x9000 + x.val * 256 + y.val * 16 ∧
    (∃ t, exec (.seReg x y) s = .next t ∧ OnlyPc s t ∧
      (s.reg x = s.reg y → t.pc = s.pc + 2) ∧ (s.reg x ≠ s.reg y → t.pc = s.pc)) ∧
    (∃ t, exec (.sneReg x y) s = .next t ∧ OnlyPc s t ∧
      (s.reg x ≠ s.reg y → t.pc = s.pc + 2) ∧ (s.reg x = s.reg y → t.pc = s.pc))

/-- R108: JP V0, nnn sets pc to the sum of V0 and nnn, not masked to 12 bits (D28, log 28). -/
def Obligations.IndexedJumpAddsV0 : Prop :=
  ∀ (nnn : Addr) (s : State), (encode (.jpV0 nnn)).toNat = 0xB000 + nnn.toNat ∧
    ∃ t, exec (.jpV0 nnn) s = .next t ∧ OnlyPc s t ∧ t.pc.toNat = (s.reg 0).toNat + nnn.toNat

/-! ### Immediate loads, arithmetic, logic, shifts, random -/

/-- R132, R134: LD Vx, kk loads the immediate and LD Vx, Vy copies the register; nothing else changes. -/
def Obligations.RegisterLoads : Prop :=
  (∀ (x : Reg) (kk : Byte) (s : State), (encode (.ldImm x kk)).toNat = 0x6000 + x.val * 256 + kk.toNat ∧
    ∃ t, exec (.ldImm x kk) s = .next t ∧ OnlyRegs [x] s t ∧ t.reg x = kk) ∧
  (∀ (x y : Reg) (s : State), (encode (.ldReg x y)).toNat = 0x8000 + x.val * 256 + y.val * 16 ∧
    ∃ t, exec (.ldReg x y) s = .next t ∧ OnlyRegs [x] s t ∧ t.reg x = s.reg y)

/-- R133: ADD Vx, kk adds modulo 256 and writes no carry: VF changes only when it is the destination. -/
def Obligations.AddImmediateWraps : Prop :=
  ∀ (x : Reg) (kk : Byte) (s : State), (encode (.addImm x kk)).toNat = 0x7000 + x.val * 256 + kk.toNat ∧
    ∃ t, exec (.addImm x kk) s = .next t ∧ OnlyRegs [x] s t ∧
      (t.reg x).toNat = ((s.reg x).toNat + kk.toNat) % 256

/-- R135 to R137: OR, AND and XOR act bit by bit, and VF changes only when it is the destination (D7, log 7). -/
def Obligations.LogicActsBitwise : Prop :=
  ∀ (x y : Reg) (s : State),
    (encode (.orReg x y)).toNat = 0x8001 + x.val * 256 + y.val * 16 ∧
    (encode (.andReg x y)).toNat = 0x8002 + x.val * 256 + y.val * 16 ∧
    (encode (.xorReg x y)).toNat = 0x8003 + x.val * 256 + y.val * 16 ∧
    (∃ t, exec (.orReg x y) s = .next t ∧ OnlyRegs [x] s t ∧
      ∀ j, (t.reg x).getLsbD j = ((s.reg x).getLsbD j || (s.reg y).getLsbD j)) ∧
    (∃ t, exec (.andReg x y) s = .next t ∧ OnlyRegs [x] s t ∧
      ∀ j, (t.reg x).getLsbD j = ((s.reg x).getLsbD j && (s.reg y).getLsbD j)) ∧
    (∃ t, exec (.xorReg x y) s = .next t ∧ OnlyRegs [x] s t ∧
      ∀ j, (t.reg x).getLsbD j = ((s.reg x).getLsbD j ^^ (s.reg y).getLsbD j))

/-- R138, R131: ADD Vx, Vy leaves the sum modulo 256 in Vx and the carry in VF, written last: with x = F the carry
stays (D4, log 4). -/
def Obligations.AddSetsCarry : Prop :=
  ∀ (x y : Reg) (s : State), (encode (.addReg x y)).toNat = 0x8004 + x.val * 256 + y.val * 16 ∧
    ∃ t, exec (.addReg x y) s = .next t ∧ OnlyRegs [x, vf] s t ∧
      (x ≠ vf → (t.reg x).toNat = ((s.reg x).toNat + (s.reg y).toNat) % 256) ∧
      (t.reg vf).toNat = if 255 < (s.reg x).toNat + (s.reg y).toNat then 1 else 0

/-- R139, R131: SUB Vx, Vy leaves the wrapped difference in Vx and in VF whether Vx was greater, strictly; with
x = F the flag stays (D4, log 4). -/
def Obligations.SubtractSetsStrictFlag : Prop :=
  ∀ (x y : Reg) (s : State), (encode (.subReg x y)).toNat = 0x8005 + x.val * 256 + y.val * 16 ∧
    ∃ t, exec (.subReg x y) s = .next t ∧ OnlyRegs [x, vf] s t ∧
      (x ≠ vf → (t.reg x).toNat = ((s.reg x).toNat + 256 - (s.reg y).toNat) % 256) ∧
      (t.reg vf).toNat = if (s.reg x).toNat > (s.reg y).toNat then 1 else 0

/-- R141, R131: SUBN Vx, Vy is SUB with the operands reversed (its flag is D6, log 6). -/
def Obligations.ReverseSubtractSetsStrictFlag : Prop :=
  ∀ (x y : Reg) (s : State), (encode (.subn x y)).toNat = 0x8007 + x.val * 256 + y.val * 16 ∧
    ∃ t, exec (.subn x y) s = .next t ∧ OnlyRegs [x, vf] s t ∧
      (x ≠ vf → (t.reg x).toNat = ((s.reg y).toNat + 256 - (s.reg x).toNat) % 256) ∧
      (t.reg vf).toNat = if (s.reg y).toNat > (s.reg x).toNat then 1 else 0

/-- R140, R142, R131: SHR halves Vx and leaves the low bit in VF, SHL doubles it modulo 256 and leaves the high bit;
Vy has no part in it (D4, D5, log 4, log 5). -/
def Obligations.ShiftsMoveOneBit : Prop :=
  ∀ (x y : Reg) (s : State),
    (encode (.shr x y)).toNat = 0x8006 + x.val * 256 + y.val * 16 ∧
    (encode (.shl x y)).toNat = 0x800E + x.val * 256 + y.val * 16 ∧
    (∃ t, exec (.shr x y) s = .next t ∧ OnlyRegs [x, vf] s t ∧
      (x ≠ vf → (t.reg x).toNat = (s.reg x).toNat / 2) ∧ (t.reg vf).toNat = (s.reg x).toNat % 2) ∧
    (∃ t, exec (.shl x y) s = .next t ∧ OnlyRegs [x, vf] s t ∧
      (x ≠ vf → (t.reg x).toNat = (s.reg x).toNat * 2 % 256) ∧ (t.reg vf).toNat = (s.reg x).toNat / 128)

/-- R143: RND Vx, kk stores a fresh draw of the random source masked by the immediate, whatever the draw is (D27,
log 27); the next draw is another one. -/
def Obligations.RandomIsMaskedDraw : Prop :=
  ∀ (x : Reg) (kk : Byte) (s : State), (encode (.rnd x kk)).toNat = 0xC000 + x.val * 256 + kk.toNat ∧
    ∃ t, exec (.rnd x kk) s = .next t ∧
      t = { s with v := t.v, draws := s.draws + 1 } ∧ (∀ r, r ≠ x → t.reg r = s.reg r) ∧ SameReads s t ∧
      ∀ j, (t.reg x).getLsbD j = ((Config.randomByte s.draws).getLsbD j && kk.getLsbD j)

/-! ### Index register and memory -/

/-- R171, R173: LD I, nnn loads the zero-extended address, and LD F, Vx five times the whole register value. -/
def Obligations.IndexLoads : Prop :=
  (∀ (nnn : Addr) (s : State), (encode (.ldI nnn)).toNat = 0xA000 + nnn.toNat ∧
    ∃ t, exec (.ldI nnn) s = .next t ∧ OnlyIndex s t ∧ t.i.toNat = nnn.toNat) ∧
  (∀ (x : Reg) (s : State), (encode (.ldF x)).toNat = 0xF029 + x.val * 256 ∧
    ∃ t, exec (.ldF x) s = .next t ∧ OnlyIndex s t ∧ t.i.toNat = (s.reg x).toNat * 5)

/-- R172: ADD I, Vx adds modulo 65536, with no flag and no error (D9, log 9). -/
def Obligations.IndexAddWraps : Prop :=
  ∀ (x : Reg) (s : State), (encode (.addI x)).toNat = 0xF01E + x.val * 256 ∧
    ∃ t, exec (.addI x) s = .next t ∧ OnlyIndex s t ∧ t.i.toNat = (s.i.toNat + (s.reg x).toNat) % 65536

/-- R174, R170: LD B, Vx stores the hundreds, tens and ones digits at I, I+1 and I+2, or is BcdOutOfBounds; I is not
modified (D8, D23, log 8, log 23). -/
def Obligations.BcdStoresThreeDigits : Prop :=
  ∀ (x : Reg) (s : State), (encode (.ldB x)).toNat = 0xF033 + x.val * 256 ∧
    (s.i.toNat + 3 ≤ 4096 →
      ∃ t, exec (.ldB x) s = .next t ∧ OnlyBytes s.i.toNat 3 s t ∧
        (t.mem.read s.i.toNat).toNat = (s.reg x).toNat / 100 ∧
        (t.mem.read (s.i.toNat + 1)).toNat = (s.reg x).toNat / 10 % 10 ∧
        (t.mem.read (s.i.toNat + 2)).toNat = (s.reg x).toNat % 10) ∧
    (4096 < s.i.toNat + 3 →
      ∃ t, exec (.ldB x) s = .next t ∧ FatalEntry .bcdOutOfBounds (encode (.ldB x)) s t)

/-- R175, R170: LD [I], Vx stores V0 to Vx at I upward, x included, or is StoreOutOfBounds; I is not modified (D8,
D23). -/
def Obligations.BlockStoreWritesRegisters : Prop :=
  ∀ (x : Reg) (s : State), (encode (.store x)).toNat = 0xF055 + x.val * 256 ∧
    (s.i.toNat + x.val + 1 ≤ 4096 →
      ∃ t, exec (.store x) s = .next t ∧ OnlyBytes s.i.toNat (x.val + 1) s t ∧
        ∀ k : Reg, k ≤ x → t.mem.read (s.i.toNat + k.val) = s.reg k) ∧
    (4096 < s.i.toNat + x.val + 1 →
      ∃ t, exec (.store x) s = .next t ∧ FatalEntry .storeOutOfBounds (encode (.store x)) s t)

/-- R176, R170: LD Vx, [I] loads V0 to Vx from I upward, x included, or is LoadOutOfBounds; I is not modified (D8,
D23). -/
def Obligations.BlockLoadReadsRegisters : Prop :=
  ∀ (x : Reg) (s : State), (encode (.load x)).toNat = 0xF065 + x.val * 256 ∧
    (s.i.toNat + x.val + 1 ≤ 4096 →
      ∃ t, exec (.load x) s = .next t ∧ OnlyRegs (regsTo x) s t ∧
        ∀ k : Reg, k ≤ x → t.reg k = s.mem.read (s.i.toNat + k.val)) ∧
    (4096 < s.i.toNat + x.val + 1 →
      ∃ t, exec (.load x) s = .next t ∧ FatalEntry .loadOutOfBounds (encode (.load x)) s t)

/-! ### Display -/

/-- R201: CLS darkens every pixel and changes nothing else, VF included; and the step that runs it sends the display
a dark framebuffer (that every such step renders is D22, log 22). -/
def Obligations.ClearDarkensDisplay : Prop :=
  encode .cls = 0x00E0 ∧
  (∀ s : State, ∃ t, exec .cls s = .next t ∧ t = { s with fb := t.fb } ∧ SameReads s t ∧
    ∀ px py, px < 64 → py < 32 → Framebuffer.pixel t.fb px py = false) ∧
  (∀ s : State, s.status = .running → s.turn = .engine → s.shutdownReq = false → s.pc.toNat + 2 ≤ 4096 →
    fetchWord s = 0x00E0 →
    ∃ t f, step s = .next t ∧ t.out = s.out ++ [.render f] ∧ ∀ px py, Framebuffer.pixel f px py = false)

/-- R203 to R205, R202, R207: DRW XORs onto every pixel of the grid the sprite bit that falls on it, clipping the
rest, and leaves in VF whether a lit pixel was erased; a sprite that leaves memory is SpriteOutOfBounds. The origin is
not wrapped and is read before VF is reset, height 0 is no row, the check comes first (D10, D11, D12, D23). -/
def Obligations.DrawXorsSpritePixels : Prop :=
  ∀ (x y : Reg) (n : Nibble) (s : State),
    (encode (.drw x y n)).toNat = 0xD000 + x.val * 256 + y.val * 16 + n.toNat ∧
    (s.i.toNat + n.toNat ≤ 4096 →
      ∃ t, exec (.drw x y n) s = .next t ∧ t = { s with v := t.v, fb := t.fb } ∧ SameReads s t ∧
        (∀ r, r ≠ vf → t.reg r = s.reg r) ∧
        (∀ px py, px < 64 → py < 32 →
          Framebuffer.pixel t.fb px py = (Framebuffer.pixel s.fb px py ^^ spriteCovers s x y n px py)) ∧
        ((∃ px py, px < 64 ∧ py < 32 ∧ spriteCovers s x y n px py = true ∧ Framebuffer.pixel s.fb px py = true) →
          t.reg vf = 1) ∧
        ((∀ px py, px < 64 → py < 32 → spriteCovers s x y n px py = true → Framebuffer.pixel s.fb px py = false) →
          t.reg vf = 0)) ∧
    (4096 < s.i.toNat + n.toNat →
      ∃ t, exec (.drw x y n) s = .next t ∧ FatalEntry .spriteOutOfBounds (encode (.drw x y n)) s t)

/-- R206: drawing the same sprite again, in any later state with the framebuffer as the first draw left it and the same
I, coordinates and sprite bytes, restores the framebuffer, and then VF is 1 exactly when a visible sprite bit fell on a
pixel that was dark before the first draw. The origin is not wrapped and is read before VF is reset (D10, D11). -/
def Obligations.DrawTwiceRestoresDisplay : Prop :=
  ∀ (x y : Reg) (n : Nibble) (s t u : State), s.i.toNat + n.toNat ≤ 4096 →
    exec (.drw x y n) s = .next t →
    u.fb = t.fb → u.i = s.i → u.reg x = s.reg x → u.reg y = s.reg y →
    (∀ k, k < n.toNat → u.mem.read (s.i.toNat + k) = s.mem.read (s.i.toNat + k)) →
    ∃ w, exec (.drw x y n) u = .next w ∧ w.fb = s.fb ∧
      (w.reg vf = 1 ↔
        ∃ px py, px < 64 ∧ py < 32 ∧ spriteCovers s x y n px py = true ∧ Framebuffer.pixel s.fb px py = false)

/-! ### Keys and timers -/

/-- R231, R232, R230: SKP Vx skips when the keyboard answers that the key in Vx is pressed, SKNP Vx when it is not,
whatever the answer is, for numbers of 16 and more too (D13, log 13). -/
def Obligations.KeySkips : Prop :=
  ∀ (x : Reg) (s : State),
    (encode (.skp x)).toNat = 0xE09E + x.val * 256 ∧ (encode (.sknp x)).toNat = 0xE0A1 + x.val * 256 ∧
    (∃ t, exec (.skp x) s = .next t ∧ t = { s with pc := t.pc, draws := s.draws + 1 } ∧ SameReads s t ∧
      t.pc = if Config.keyPressed s.draws (s.reg x) = true then s.pc + 2 else s.pc) ∧
    (∃ t, exec (.sknp x) s = .next t ∧ t = { s with pc := t.pc, draws := s.draws + 1 } ∧ SameReads s t ∧
      t.pc = if Config.keyPressed s.draws (s.reg x) = true then s.pc else s.pc + 2)

/-- R233, R29: LD Vx, DT reads the delay timer into Vx and nothing else changes; no other instruction reads DT, and
none reads ST: with another value in the timer it leaves the same in every other part of the state. Of a faulted state
only the status and the events are compared (R260; D34, log 34). -/
def Obligations.DelayTimerIsReadSoundTimerIsNot : Prop :=
  (∀ (x : Reg) (s : State), (encode (.ldVxDt x)).toNat = 0xF007 + x.val * 256 ∧
    ∃ t, exec (.ldVxDt x) s = .next t ∧ OnlyRegs [x] s t ∧ t.reg x = s.dt) ∧
  (∀ (i : Instr) (s t : State) (b : Byte), exec i s = .next t →
    ∃ t', exec i { s with st := b } = .next t' ∧ t'.status = t.status ∧ t'.out = t.out ∧
      (t.faulted = false → t' = { t with st := t'.st })) ∧
  (∀ (i : Instr) (s t : State) (b : Byte), exec i s = .next t → (∀ x, i ≠ .ldVxDt x) →
    ∃ t', exec i { s with dt := b } = .next t' ∧ t'.status = t.status ∧ t'.out = t.out ∧
      (t.faulted = false → t' = { t with dt := t'.dt }))

/-- R233, R273: LD Vx, DT loads the delay timer into Vx and changes nothing else; after n ticks it loads what they
left, n below the old count and not below 0 (the tick is D19, log 19). -/
def Obligations.DelayTimerIsRead : Prop :=
  (∀ (x : Reg) (s : State), (encode (.ldVxDt x)).toNat = 0xF007 + x.val * 256 ∧
    ∃ t, exec (.ldVxDt x) s = .next t ∧ OnlyRegs [x] s t ∧ t.reg x = s.dt) ∧
  (∀ (x : Reg) (s : State) (n : Nat),
    ∃ t, exec (.ldVxDt x) ((State.tickDelay^[n]) s) = .next t ∧ (t.reg x).toNat = s.dt.toNat - n)

/-- R234, R237: LD Vx, K only blocks; while Blocked the engine takes no step; a key notification stores the key in Vx,
and the step then renders; a shutdown ends the run and Vx is not written (D22, D26, D32, log 32). -/
def Obligations.KeyWaitBlocksUntilKey : Prop :=
  ∀ (x : Reg) (s : State), (encode (.ldVxK x)).toNat = 0xF00A + x.val * 256 ∧
    (∃ t, exec (.ldVxK x) s = .next t ∧ t = { s with status := .blocked x } ∧ SameReads s t) ∧
    (s.status = .blocked x → s.turn = .engine → s.shutdownReq = false →
      ∃ t, step s = .next t ∧ t = { s with turn := t.turn, moves := t.moves }) ∧
    (∀ k, s.status = .blocked x → s.turn = .keyPress k →
      ∃ t, step s = .next t ∧
        t = { s with
          v := t.v
          status := .running
          out := s.out ++ [.render s.fb]
          turn := t.turn
          moves := t.moves } ∧
        (t.reg x).toNat = k.val ∧ ∀ r, r ≠ x → t.reg r = s.reg r) ∧
    (s.status = .blocked x → s.turn = .shutdown →
      ∃ t, step s = .next t ∧ t.status = .stopped ∧ t.v = s.v)

/-- R235, R236, R272: LD DT, Vx and LD ST, Vx write their timer in place, whether it was Armed or Idle, and nothing
else (D19, log 19). -/
def Obligations.TimerWritesInPlace : Prop :=
  ∀ (x : Reg) (s : State),
    (encode (.ldDtVx x)).toNat = 0xF015 + x.val * 256 ∧ (encode (.ldStVx x)).toNat = 0xF018 + x.val * 256 ∧
    (∃ t, exec (.ldDtVx x) s = .next t ∧ t = { s with dt := s.reg x } ∧ SameReads s t) ∧
    (∃ t, exec (.ldStVx x) s = .next t ∧ t = { s with st := s.reg x } ∧ SameReads s t)

/-- R273, R274: a timer counts down to 0 and stays there, and an Armed sound timer at v sends exactly v beeps, each of
BEEP_MS = 16 (D19, D20, log 20), until it is Idle. -/
def Obligations.TimersCountDownToZero : Prop :=
  ∀ (s : State) (n : Nat),
    ((State.tickDelay^[n]) s).dt.toNat = s.dt.toNat - n ∧
    ((State.tickSound^[n]) s).st.toNat = s.st.toNat - n ∧
    ((State.tickSound^[n]) s).out = s.out ++ List.replicate (min n s.st.toNat) (.beep 16)
end

