-- ==== Sys2Proof/Laws/Display.lean ====
section
/-! SUPPORT. Pixels: a read after a write, and the cleared framebuffer. -/

namespace Sys2Proof.Machine

theorem Framebuffer.pixel_setPixel_same (f : Framebuffer) (x y : Nat) (b : Bool) (hx : x < 64) (hy : y < 32) :
    Framebuffer.pixel (Framebuffer.setPixel f x y b) x y = b := by
  simp [Framebuffer.pixel, Framebuffer.setPixel, hx, hy]

theorem Framebuffer.pixel_setPixel_ne (f : Framebuffer) (x y x' y' : Nat) (b : Bool) (h : x' ≠ x ∨ y' ≠ y) :
    Framebuffer.pixel (Framebuffer.setPixel f x y b) x' y' = Framebuffer.pixel f x' y' := by
  unfold Framebuffer.pixel Framebuffer.setPixel
  by_cases h1 : x < 64 ∧ y < 32 <;> by_cases h2 : x' < 64 ∧ y' < 32 <;> simp only [h1, h2, and_self, dif_pos, dif_neg,
    not_false_eq_true]
  by_cases hy : y' = y
  · subst hy
    have hx : x ≠ x' := by omega
    simp [hx]
  · have hy' : y ≠ y' := fun e => hy e.symm
    simp [hy']

@[simp] theorem Framebuffer.pixel_clear (x y : Nat) : Framebuffer.pixel Framebuffer.clear x y = false := by
  simp [Framebuffer.pixel, Framebuffer.clear]

end Sys2Proof.Machine
end

