-- ==== Sys2Proof/Laws/Encoding.lean ====
section
/-! SUPPORT. The three word shapes as numbers, and each field read back out of them (R74). -/

namespace Sys2Proof

theorem encodeXYN_toNat (op : Nibble) (x y : Reg) (n : Nibble) :
    (encodeXYN op x y n).toNat = op.toNat * 4096 + x.val * 256 + y.val * 16 + n.toNat := by
  unfold encodeXYN
  rw [BitVec.toNat_append, BitVec.toNat_append, BitVec.toNat_append]
  simp only [BitVec.toNat_ofFin]
  rw [← Nat.shiftLeft_add_eq_or_of_lt (by omega), ← Nat.shiftLeft_add_eq_or_of_lt (by omega),
    ← Nat.shiftLeft_add_eq_or_of_lt (by omega)]
  simp only [Nat.shiftLeft_eq]
  omega

theorem encodeXKk_toNat (op : Nibble) (x : Reg) (kk : Byte) :
    (encodeXKk op x kk).toNat = op.toNat * 4096 + x.val * 256 + kk.toNat := by
  unfold encodeXKk
  rw [BitVec.toNat_append, BitVec.toNat_append]
  simp only [BitVec.toNat_ofFin]
  rw [← Nat.shiftLeft_add_eq_or_of_lt (by omega), ← Nat.shiftLeft_add_eq_or_of_lt (by omega)]
  simp only [Nat.shiftLeft_eq]
  omega

theorem encodeNnn_toNat (op : Nibble) (nnn : Addr) : (encodeNnn op nnn).toNat = op.toNat * 4096 + nnn.toNat := by
  unfold encodeNnn
  rw [BitVec.toNat_append, ← Nat.shiftLeft_add_eq_or_of_lt (by omega)]
  simp only [Nat.shiftLeft_eq]

@[simp] theorem opField_encodeXYN (op : Nibble) (x y : Reg) (n : Nibble) : opField (encodeXYN op x y n) = op := by
  apply BitVec.eq_of_toNat_eq
  simp [opField, encodeXYN_toNat, Nat.shiftRight_eq_div_pow]; omega

@[simp] theorem xField_encodeXYN (op : Nibble) (x y : Reg) (n : Nibble) : xField (encodeXYN op x y n) = x := by
  apply Fin.eq_of_val_eq
  simp [xField, encodeXYN_toNat, Nat.shiftRight_eq_div_pow]; omega

@[simp] theorem yField_encodeXYN (op : Nibble) (x y : Reg) (n : Nibble) : yField (encodeXYN op x y n) = y := by
  apply Fin.eq_of_val_eq
  simp [yField, encodeXYN_toNat, Nat.shiftRight_eq_div_pow]; omega

@[simp] theorem nField_encodeXYN (op : Nibble) (x y : Reg) (n : Nibble) : nField (encodeXYN op x y n) = n := by
  apply BitVec.eq_of_toNat_eq
  simp [nField, encodeXYN_toNat]; omega

@[simp] theorem opField_encodeXKk (op : Nibble) (x : Reg) (kk : Byte) : opField (encodeXKk op x kk) = op := by
  apply BitVec.eq_of_toNat_eq
  simp [opField, encodeXKk_toNat, Nat.shiftRight_eq_div_pow]; omega

@[simp] theorem xField_encodeXKk (op : Nibble) (x : Reg) (kk : Byte) : xField (encodeXKk op x kk) = x := by
  apply Fin.eq_of_val_eq
  simp [xField, encodeXKk_toNat, Nat.shiftRight_eq_div_pow]; omega

@[simp] theorem kkField_encodeXKk (op : Nibble) (x : Reg) (kk : Byte) : kkField (encodeXKk op x kk) = kk := by
  apply BitVec.eq_of_toNat_eq
  simp [kkField, encodeXKk_toNat]; omega

@[simp] theorem opField_encodeNnn (op : Nibble) (nnn : Addr) : opField (encodeNnn op nnn) = op := by
  apply BitVec.eq_of_toNat_eq
  simp [opField, encodeNnn_toNat, Nat.shiftRight_eq_div_pow]; omega

@[simp] theorem nnnField_encodeNnn (op : Nibble) (nnn : Addr) : nnnField (encodeNnn op nnn) = nnn := by
  apply BitVec.eq_of_toNat_eq
  simp [nnnField, encodeNnn_toNat]; omega

/-! ### Masked words -/

theorem bit_encodeXYN (op : Nibble) (x y : Reg) (n : Nibble) (j : Nat) :
    (encodeXYN op x y n).getLsbD j =
      if j < 4 then n.getLsbD j
      else if j - 4 < 4 then (BitVec.ofFin (w := 4) y).getLsbD (j - 4)
      else if j - 4 - 4 < 4 then (BitVec.ofFin (w := 4) x).getLsbD (j - 4 - 4)
      else op.getLsbD (j - 4 - 4 - 4) := by
  unfold encodeXYN
  rw [BitVec.getLsbD_append, BitVec.getLsbD_append, BitVec.getLsbD_append]

theorem bit_encodeXKk (op : Nibble) (x : Reg) (kk : Byte) (j : Nat) :
    (encodeXKk op x kk).getLsbD j =
      if j < 8 then kk.getLsbD j
      else if j - 8 < 4 then (BitVec.ofFin (w := 4) x).getLsbD (j - 8)
      else op.getLsbD (j - 8 - 4) := by
  unfold encodeXKk
  rw [BitVec.getLsbD_append, BitVec.getLsbD_append]

theorem bit_encodeNnn (op : Nibble) (nnn : Addr) (j : Nat) :
    (encodeNnn op nnn).getLsbD j = if j < 12 then nnn.getLsbD j else op.getLsbD (j - 12) := by
  unfold encodeNnn
  rw [BitVec.getLsbD_append]

theorem and_F00F_encodeXYN (op : Nibble) (x y : Reg) (n : Nibble) :
    encodeXYN op x y n &&& 0xF00F#16 = encodeXYN op 0 0 n := by
  apply BitVec.eq_of_getLsbD_eq
  intro j hj
  rw [BitVec.getLsbD_and, bit_encodeXYN, bit_encodeXYN]
  interval_cases j <;> simp

theorem and_F000_encodeXYN (op : Nibble) (x y : Reg) (n : Nibble) :
    encodeXYN op x y n &&& 0xF000#16 = encodeXYN op 0 0 0 := by
  apply BitVec.eq_of_getLsbD_eq
  intro j hj
  rw [BitVec.getLsbD_and, bit_encodeXYN, bit_encodeXYN]
  interval_cases j <;> simp

theorem and_F000_encodeXKk (op : Nibble) (x : Reg) (kk : Byte) :
    encodeXKk op x kk &&& 0xF000#16 = encodeXKk op 0 0 := by
  apply BitVec.eq_of_getLsbD_eq
  intro j hj
  rw [BitVec.getLsbD_and, bit_encodeXKk, bit_encodeXKk]
  interval_cases j <;> simp

theorem and_F0FF_encodeXKk (op : Nibble) (x : Reg) (kk : Byte) :
    encodeXKk op x kk &&& 0xF0FF#16 = encodeXKk op 0 kk := by
  apply BitVec.eq_of_getLsbD_eq
  intro j hj
  rw [BitVec.getLsbD_and, bit_encodeXKk, bit_encodeXKk]
  interval_cases j <;> simp

theorem and_F000_encodeNnn (op : Nibble) (nnn : Addr) : encodeNnn op nnn &&& 0xF000#16 = encodeNnn op 0 := by
  apply BitVec.eq_of_getLsbD_eq
  intro j hj
  rw [BitVec.getLsbD_and, bit_encodeNnn, bit_encodeNnn]
  interval_cases j <;> simp

end Sys2Proof
end

