-- ==== Sys2Proof/Laws/Memory.lean ====
section
/-! SUPPORT. Memory: a read after a write, and the canonical form, which every memory operation keeps. -/

namespace Sys2Proof.Machine

/-! ### Reading after a write -/

theorem Memory.read_erase_same (m : Memory) (a : Nat) : (m.erase a).read a = resetByte a := by
  induction m with
  | nil => rfl
  | cons c m ih =>
    obtain ⟨a', b'⟩ := c
    by_cases h : a' = a
    · subst h; simpa [Memory.erase] using ih
    · have : Memory.erase ((a', b') :: m) a = (a', b') :: Memory.erase m a := by simp [Memory.erase, h]
      simp [this, Memory.read, h, ih]

theorem Memory.read_erase_ne (m : Memory) (a x : Nat) (hx : x ≠ a) : (m.erase a).read x = m.read x := by
  induction m with
  | nil => rfl
  | cons c m ih =>
    obtain ⟨a', b'⟩ := c
    by_cases h : a' = a
    · subst h
      have : Memory.erase ((a', b') :: m) a' = Memory.erase m a' := by simp [Memory.erase]
      simp [this, Memory.read, ih, Ne.symm hx]
    · have : Memory.erase ((a', b') :: m) a = (a', b') :: Memory.erase m a := by simp [Memory.erase, h]
      simp [this, Memory.read, ih]

theorem Memory.read_insert_ne (m : Memory) (a x : Nat) (b : Byte) (hx : x ≠ a) :
    (m.insert a b).read x = m.read x := by
  induction m with
  | nil => simp [Memory.insert, Memory.read, Ne.symm hx]
  | cons c m ih =>
    obtain ⟨a', b'⟩ := c
    simp only [Memory.insert]
    split
    · simp [Memory.read, Ne.symm hx]
    · simp [Memory.read, ih]

theorem Memory.read_insert_same (m : Memory) (a : Nat) (b : Byte) (h : ∀ c ∈ m, c.1 ≠ a) :
    (m.insert a b).read a = b := by
  induction m with
  | nil => simp [Memory.insert, Memory.read]
  | cons c m ih =>
    obtain ⟨a', b'⟩ := c
    have h1 : a' ≠ a := h (a', b') (by simp)
    have h2 : ∀ c ∈ m, c.1 ≠ a := fun c hc => h c (by simp [hc])
    simp only [Memory.insert]
    split
    · simp [Memory.read]
    · simp [Memory.read, h1, ih h2]

theorem Memory.erase_ne (m : Memory) (a : Nat) : ∀ c ∈ m.erase a, c.1 ≠ a := by
  simp [Memory.erase]

@[simp] theorem Memory.read_write_same (m : Memory) (a : Nat) (b : Byte) (h : a < 4096) :
    (m.write a b).read a = b := by
  simp only [Memory.write, Config.memSize, if_pos h]
  split
  · next e => rw [Memory.read_erase_same, e]
  · exact Memory.read_insert_same _ _ _ (Memory.erase_ne m a)

@[simp] theorem Memory.read_write_ne (m : Memory) (a x : Nat) (b : Byte) (hx : x ≠ a) :
    (m.write a b).read x = m.read x := by
  simp only [Memory.write]
  split
  · split
    · exact Memory.read_erase_ne _ _ _ hx
    · rw [Memory.read_insert_ne _ _ _ _ hx, Memory.read_erase_ne _ _ _ hx]
  · rfl

/-- Bytes outside the run that is written stay. -/
theorem Memory.read_writeBytes_outside (bs : List Byte) (m : Memory) (a x : Nat)
    (hx : x < a ∨ a + bs.length ≤ x) : (m.writeBytes a bs).read x = m.read x := by
  induction bs generalizing m a with
  | nil => rfl
  | cons b bs ih =>
    simp only [List.length_cons] at hx
    rw [Memory.writeBytes, ih _ _ (by omega), Memory.read_write_ne _ _ _ _ (by omega)]

/-- A run that fits in memory is written byte by byte. -/
theorem Memory.read_writeBytes_inside (bs : List Byte) (m : Memory) (a k : Nat) (hk : k < bs.length)
    (ha : a + bs.length ≤ 4096) : (m.writeBytes a bs).read (a + k) = bs[k] := by
  induction bs generalizing m a k with
  | nil => simp at hk
  | cons b bs ih =>
    simp only [List.length_cons] at hk ha
    cases k with
    | zero =>
      rw [Memory.writeBytes, Memory.read_writeBytes_outside _ _ _ _ (by omega)]
      simpa using Memory.read_write_same m a b (by omega)
    | succ k =>
      rw [Memory.writeBytes, show a + (k + 1) = (a + 1) + k by omega, ih _ _ _ (by omega) (by omega)]
      simp

/-! ### The canonical form -/

theorem Memory.wf_nil : Memory.wf [] := by simp [Memory.wf]

theorem Memory.wf_erase (m : Memory) (a : Nat) (h : m.wf) : (m.erase a).wf :=
  ⟨h.1.filter _, fun c hc => h.2 c (List.mem_of_mem_filter hc)⟩

theorem Memory.mem_insert (m : Memory) (a : Nat) (b : Byte) (c : Host.Cell) :
    c ∈ m.insert a b → c = (a, b) ∨ c ∈ m := by
  induction m with
  | nil => simp [Memory.insert]
  | cons d m ih =>
    obtain ⟨a', b'⟩ := d
    simp only [Memory.insert]
    split
    · simp
    · intro h
      rcases List.mem_cons.1 h with h | h
      · simp [h]
      · rcases ih h with h | h <;> simp [h]

theorem Memory.insert_sorted (m : Memory) (a : Nat) (b : Byte)
    (h : List.Pairwise (fun c d : Host.Cell => c.1 < d.1) m) (hne : ∀ c ∈ m, c.1 ≠ a) :
    List.Pairwise (fun c d : Host.Cell => c.1 < d.1) (m.insert a b) := by
  induction m with
  | nil => simp [Memory.insert]
  | cons d m ih =>
    obtain ⟨a', b'⟩ := d
    rw [List.pairwise_cons] at h
    have hd : a' ≠ a := hne (a', b') (by simp)
    simp only [Memory.insert]
    split
    · next hlt =>
      refine List.pairwise_cons.2 ⟨?_, List.pairwise_cons.2 h⟩
      intro c hc
      rcases List.mem_cons.1 hc with rfl | hc
      · exact hlt
      · exact Nat.lt_trans hlt (h.1 c hc)
    · next hlt =>
      refine List.pairwise_cons.2 ⟨?_, ih h.2 (fun c hc => hne c (by simp [hc]))⟩
      intro c hc
      rcases Memory.mem_insert _ _ _ _ hc with rfl | hc
      · simp only; omega
      · exact h.1 c hc

theorem Memory.wf_write (m : Memory) (a : Nat) (b : Byte) (h : m.wf) : (m.write a b).wf := by
  simp only [Memory.write, Config.memSize]
  split
  · next ha =>
    split
    · exact Memory.wf_erase m a h
    · next hb =>
      have he := Memory.wf_erase m a h
      refine ⟨Memory.insert_sorted _ _ _ he.1 (Memory.erase_ne m a), ?_⟩
      intro c hc
      rcases Memory.mem_insert _ _ _ _ hc with rfl | hc
      · exact ⟨ha, hb⟩
      · exact he.2 c hc
  · exact h

theorem Memory.wf_writeBytes (bs : List Byte) (m : Memory) (a : Nat) (h : m.wf) : (m.writeBytes a bs).wf := by
  induction bs generalizing m a with
  | nil => exact h
  | cons b bs ih => exact ih _ _ (Memory.wf_write m a b h)

/-- Reset memory is in canonical form. -/
theorem Memory.wf_reset : Memory.wf State.reset.mem := Memory.wf_nil

end Sys2Proof.Machine
end

