-- ==== Sys2Proof/Laws/State.lean ====
section
/-! SUPPORT. Each named update of State, field by field: what it writes and that every other field stays. -/

namespace Sys2Proof.Machine

/-! ### setReg -/

@[simp] theorem State.setReg_mem (s : State) (x : Reg) (b : Byte) : (s.setReg x b).mem = s.mem := rfl
@[simp] theorem State.setReg_v (s : State) (x : Reg) (b : Byte) : (s.setReg x b).v = s.v.set x b := rfl
@[simp] theorem State.setReg_i (s : State) (x : Reg) (b : Byte) : (s.setReg x b).i = s.i := rfl
@[simp] theorem State.setReg_pc (s : State) (x : Reg) (b : Byte) : (s.setReg x b).pc = s.pc := rfl
@[simp] theorem State.setReg_sp (s : State) (x : Reg) (b : Byte) : (s.setReg x b).sp = s.sp := rfl
@[simp] theorem State.setReg_stack (s : State) (x : Reg) (b : Byte) : (s.setReg x b).stack = s.stack := rfl
@[simp] theorem State.setReg_fb (s : State) (x : Reg) (b : Byte) : (s.setReg x b).fb = s.fb := rfl
@[simp] theorem State.setReg_dt (s : State) (x : Reg) (b : Byte) : (s.setReg x b).dt = s.dt := rfl
@[simp] theorem State.setReg_st (s : State) (x : Reg) (b : Byte) : (s.setReg x b).st = s.st := rfl
@[simp] theorem State.setReg_status (s : State) (x : Reg) (b : Byte) : (s.setReg x b).status = s.status := rfl
@[simp] theorem State.setReg_shutdownReq (s : State) (x : Reg) (b : Byte) : (s.setReg x b).shutdownReq = s.shutdownReq := rfl
@[simp] theorem State.setReg_out (s : State) (x : Reg) (b : Byte) : (s.setReg x b).out = s.out := rfl
@[simp] theorem State.setReg_draws (s : State) (x : Reg) (b : Byte) : (s.setReg x b).draws = s.draws := rfl
@[simp] theorem State.setReg_turn (s : State) (x : Reg) (b : Byte) : (s.setReg x b).turn = s.turn := rfl
@[simp] theorem State.setReg_moves (s : State) (x : Reg) (b : Byte) : (s.setReg x b).moves = s.moves := rfl

/-! ### setI -/

@[simp] theorem State.setI_mem (s : State) (a : Word) : (s.setI a).mem = s.mem := rfl
@[simp] theorem State.setI_v (s : State) (a : Word) : (s.setI a).v = s.v := rfl
@[simp] theorem State.setI_i (s : State) (a : Word) : (s.setI a).i = a := rfl
@[simp] theorem State.setI_pc (s : State) (a : Word) : (s.setI a).pc = s.pc := rfl
@[simp] theorem State.setI_sp (s : State) (a : Word) : (s.setI a).sp = s.sp := rfl
@[simp] theorem State.setI_stack (s : State) (a : Word) : (s.setI a).stack = s.stack := rfl
@[simp] theorem State.setI_fb (s : State) (a : Word) : (s.setI a).fb = s.fb := rfl
@[simp] theorem State.setI_dt (s : State) (a : Word) : (s.setI a).dt = s.dt := rfl
@[simp] theorem State.setI_st (s : State) (a : Word) : (s.setI a).st = s.st := rfl
@[simp] theorem State.setI_status (s : State) (a : Word) : (s.setI a).status = s.status := rfl
@[simp] theorem State.setI_shutdownReq (s : State) (a : Word) : (s.setI a).shutdownReq = s.shutdownReq := rfl
@[simp] theorem State.setI_out (s : State) (a : Word) : (s.setI a).out = s.out := rfl
@[simp] theorem State.setI_draws (s : State) (a : Word) : (s.setI a).draws = s.draws := rfl
@[simp] theorem State.setI_turn (s : State) (a : Word) : (s.setI a).turn = s.turn := rfl
@[simp] theorem State.setI_moves (s : State) (a : Word) : (s.setI a).moves = s.moves := rfl
@[simp] theorem State.setI_reg (s : State) (a : Word) (r : Reg) : (s.setI a).reg r = s.reg r := rfl

/-! ### setPc -/

@[simp] theorem State.setPc_mem (s : State) (a : Word) : (s.setPc a).mem = s.mem := rfl
@[simp] theorem State.setPc_v (s : State) (a : Word) : (s.setPc a).v = s.v := rfl
@[simp] theorem State.setPc_i (s : State) (a : Word) : (s.setPc a).i = s.i := rfl
@[simp] theorem State.setPc_pc (s : State) (a : Word) : (s.setPc a).pc = a := rfl
@[simp] theorem State.setPc_sp (s : State) (a : Word) : (s.setPc a).sp = s.sp := rfl
@[simp] theorem State.setPc_stack (s : State) (a : Word) : (s.setPc a).stack = s.stack := rfl
@[simp] theorem State.setPc_fb (s : State) (a : Word) : (s.setPc a).fb = s.fb := rfl
@[simp] theorem State.setPc_dt (s : State) (a : Word) : (s.setPc a).dt = s.dt := rfl
@[simp] theorem State.setPc_st (s : State) (a : Word) : (s.setPc a).st = s.st := rfl
@[simp] theorem State.setPc_status (s : State) (a : Word) : (s.setPc a).status = s.status := rfl
@[simp] theorem State.setPc_shutdownReq (s : State) (a : Word) : (s.setPc a).shutdownReq = s.shutdownReq := rfl
@[simp] theorem State.setPc_out (s : State) (a : Word) : (s.setPc a).out = s.out := rfl
@[simp] theorem State.setPc_draws (s : State) (a : Word) : (s.setPc a).draws = s.draws := rfl
@[simp] theorem State.setPc_turn (s : State) (a : Word) : (s.setPc a).turn = s.turn := rfl
@[simp] theorem State.setPc_moves (s : State) (a : Word) : (s.setPc a).moves = s.moves := rfl
@[simp] theorem State.setPc_reg (s : State) (a : Word) (r : Reg) : (s.setPc a).reg r = s.reg r := rfl

/-! ### advancePc -/

@[simp] theorem State.advancePc_mem (s : State) : s.advancePc.mem = s.mem := rfl
@[simp] theorem State.advancePc_v (s : State) : s.advancePc.v = s.v := rfl
@[simp] theorem State.advancePc_i (s : State) : s.advancePc.i = s.i := rfl
@[simp] theorem State.advancePc_pc (s : State) : s.advancePc.pc = s.pc + 2 := rfl
@[simp] theorem State.advancePc_sp (s : State) : s.advancePc.sp = s.sp := rfl
@[simp] theorem State.advancePc_stack (s : State) : s.advancePc.stack = s.stack := rfl
@[simp] theorem State.advancePc_fb (s : State) : s.advancePc.fb = s.fb := rfl
@[simp] theorem State.advancePc_dt (s : State) : s.advancePc.dt = s.dt := rfl
@[simp] theorem State.advancePc_st (s : State) : s.advancePc.st = s.st := rfl
@[simp] theorem State.advancePc_status (s : State) : s.advancePc.status = s.status := rfl
@[simp] theorem State.advancePc_shutdownReq (s : State) : s.advancePc.shutdownReq = s.shutdownReq := rfl
@[simp] theorem State.advancePc_out (s : State) : s.advancePc.out = s.out := rfl
@[simp] theorem State.advancePc_draws (s : State) : s.advancePc.draws = s.draws := rfl
@[simp] theorem State.advancePc_turn (s : State) : s.advancePc.turn = s.turn := rfl
@[simp] theorem State.advancePc_moves (s : State) : s.advancePc.moves = s.moves := rfl
@[simp] theorem State.advancePc_reg (s : State) (r : Reg) : s.advancePc.reg r = s.reg r := rfl

/-! ### skipIf -/

@[simp] theorem State.skipIf_mem (s : State) (c : Bool) : (s.skipIf c).mem = s.mem := rfl
@[simp] theorem State.skipIf_v (s : State) (c : Bool) : (s.skipIf c).v = s.v := rfl
@[simp] theorem State.skipIf_i (s : State) (c : Bool) : (s.skipIf c).i = s.i := rfl
@[simp] theorem State.skipIf_pc (s : State) (c : Bool) : (s.skipIf c).pc = if c then s.pc + 2 else s.pc := rfl
@[simp] theorem State.skipIf_sp (s : State) (c : Bool) : (s.skipIf c).sp = s.sp := rfl
@[simp] theorem State.skipIf_stack (s : State) (c : Bool) : (s.skipIf c).stack = s.stack := rfl
@[simp] theorem State.skipIf_fb (s : State) (c : Bool) : (s.skipIf c).fb = s.fb := rfl
@[simp] theorem State.skipIf_dt (s : State) (c : Bool) : (s.skipIf c).dt = s.dt := rfl
@[simp] theorem State.skipIf_st (s : State) (c : Bool) : (s.skipIf c).st = s.st := rfl
@[simp] theorem State.skipIf_status (s : State) (c : Bool) : (s.skipIf c).status = s.status := rfl
@[simp] theorem State.skipIf_shutdownReq (s : State) (c : Bool) : (s.skipIf c).shutdownReq = s.shutdownReq := rfl
@[simp] theorem State.skipIf_out (s : State) (c : Bool) : (s.skipIf c).out = s.out := rfl
@[simp] theorem State.skipIf_draws (s : State) (c : Bool) : (s.skipIf c).draws = s.draws := rfl
@[simp] theorem State.skipIf_turn (s : State) (c : Bool) : (s.skipIf c).turn = s.turn := rfl
@[simp] theorem State.skipIf_moves (s : State) (c : Bool) : (s.skipIf c).moves = s.moves := rfl
@[simp] theorem State.skipIf_reg (s : State) (c : Bool) (r : Reg) : (s.skipIf c).reg r = s.reg r := rfl

/-! ### setMem -/

@[simp] theorem State.setMem_mem (s : State) (m : Memory) : (s.setMem m).mem = m := rfl
@[simp] theorem State.setMem_v (s : State) (m : Memory) : (s.setMem m).v = s.v := rfl
@[simp] theorem State.setMem_i (s : State) (m : Memory) : (s.setMem m).i = s.i := rfl
@[simp] theorem State.setMem_pc (s : State) (m : Memory) : (s.setMem m).pc = s.pc := rfl
@[simp] theorem State.setMem_sp (s : State) (m : Memory) : (s.setMem m).sp = s.sp := rfl
@[simp] theorem State.setMem_stack (s : State) (m : Memory) : (s.setMem m).stack = s.stack := rfl
@[simp] theorem State.setMem_fb (s : State) (m : Memory) : (s.setMem m).fb = s.fb := rfl
@[simp] theorem State.setMem_dt (s : State) (m : Memory) : (s.setMem m).dt = s.dt := rfl
@[simp] theorem State.setMem_st (s : State) (m : Memory) : (s.setMem m).st = s.st := rfl
@[simp] theorem State.setMem_status (s : State) (m : Memory) : (s.setMem m).status = s.status := rfl
@[simp] theorem State.setMem_shutdownReq (s : State) (m : Memory) : (s.setMem m).shutdownReq = s.shutdownReq := rfl
@[simp] theorem State.setMem_out (s : State) (m : Memory) : (s.setMem m).out = s.out := rfl
@[simp] theorem State.setMem_draws (s : State) (m : Memory) : (s.setMem m).draws = s.draws := rfl
@[simp] theorem State.setMem_turn (s : State) (m : Memory) : (s.setMem m).turn = s.turn := rfl
@[simp] theorem State.setMem_moves (s : State) (m : Memory) : (s.setMem m).moves = s.moves := rfl
@[simp] theorem State.setMem_reg (s : State) (m : Memory) (r : Reg) : (s.setMem m).reg r = s.reg r := rfl

/-! ### setFb -/

@[simp] theorem State.setFb_mem (s : State) (f : Framebuffer) : (s.setFb f).mem = s.mem := rfl
@[simp] theorem State.setFb_v (s : State) (f : Framebuffer) : (s.setFb f).v = s.v := rfl
@[simp] theorem State.setFb_i (s : State) (f : Framebuffer) : (s.setFb f).i = s.i := rfl
@[simp] theorem State.setFb_pc (s : State) (f : Framebuffer) : (s.setFb f).pc = s.pc := rfl
@[simp] theorem State.setFb_sp (s : State) (f : Framebuffer) : (s.setFb f).sp = s.sp := rfl
@[simp] theorem State.setFb_stack (s : State) (f : Framebuffer) : (s.setFb f).stack = s.stack := rfl
@[simp] theorem State.setFb_fb (s : State) (f : Framebuffer) : (s.setFb f).fb = f := rfl
@[simp] theorem State.setFb_dt (s : State) (f : Framebuffer) : (s.setFb f).dt = s.dt := rfl
@[simp] theorem State.setFb_st (s : State) (f : Framebuffer) : (s.setFb f).st = s.st := rfl
@[simp] theorem State.setFb_status (s : State) (f : Framebuffer) : (s.setFb f).status = s.status := rfl
@[simp] theorem State.setFb_shutdownReq (s : State) (f : Framebuffer) : (s.setFb f).shutdownReq = s.shutdownReq := rfl
@[simp] theorem State.setFb_out (s : State) (f : Framebuffer) : (s.setFb f).out = s.out := rfl
@[simp] theorem State.setFb_draws (s : State) (f : Framebuffer) : (s.setFb f).draws = s.draws := rfl
@[simp] theorem State.setFb_turn (s : State) (f : Framebuffer) : (s.setFb f).turn = s.turn := rfl
@[simp] theorem State.setFb_moves (s : State) (f : Framebuffer) : (s.setFb f).moves = s.moves := rfl
@[simp] theorem State.setFb_reg (s : State) (f : Framebuffer) (r : Reg) : (s.setFb f).reg r = s.reg r := rfl

/-! ### setDelay -/

@[simp] theorem State.setDelay_mem (s : State) (b : Byte) : (s.setDelay b).mem = s.mem := rfl
@[simp] theorem State.setDelay_v (s : State) (b : Byte) : (s.setDelay b).v = s.v := rfl
@[simp] theorem State.setDelay_i (s : State) (b : Byte) : (s.setDelay b).i = s.i := rfl
@[simp] theorem State.setDelay_pc (s : State) (b : Byte) : (s.setDelay b).pc = s.pc := rfl
@[simp] theorem State.setDelay_sp (s : State) (b : Byte) : (s.setDelay b).sp = s.sp := rfl
@[simp] theorem State.setDelay_stack (s : State) (b : Byte) : (s.setDelay b).stack = s.stack := rfl
@[simp] theorem State.setDelay_fb (s : State) (b : Byte) : (s.setDelay b).fb = s.fb := rfl
@[simp] theorem State.setDelay_dt (s : State) (b : Byte) : (s.setDelay b).dt = b := rfl
@[simp] theorem State.setDelay_st (s : State) (b : Byte) : (s.setDelay b).st = s.st := rfl
@[simp] theorem State.setDelay_status (s : State) (b : Byte) : (s.setDelay b).status = s.status := rfl
@[simp] theorem State.setDelay_shutdownReq (s : State) (b : Byte) : (s.setDelay b).shutdownReq = s.shutdownReq := rfl
@[simp] theorem State.setDelay_out (s : State) (b : Byte) : (s.setDelay b).out = s.out := rfl
@[simp] theorem State.setDelay_draws (s : State) (b : Byte) : (s.setDelay b).draws = s.draws := rfl
@[simp] theorem State.setDelay_turn (s : State) (b : Byte) : (s.setDelay b).turn = s.turn := rfl
@[simp] theorem State.setDelay_moves (s : State) (b : Byte) : (s.setDelay b).moves = s.moves := rfl
@[simp] theorem State.setDelay_reg (s : State) (b : Byte) (r : Reg) : (s.setDelay b).reg r = s.reg r := rfl

/-! ### setSound -/

@[simp] theorem State.setSound_mem (s : State) (b : Byte) : (s.setSound b).mem = s.mem := rfl
@[simp] theorem State.setSound_v (s : State) (b : Byte) : (s.setSound b).v = s.v := rfl
@[simp] theorem State.setSound_i (s : State) (b : Byte) : (s.setSound b).i = s.i := rfl
@[simp] theorem State.setSound_pc (s : State) (b : Byte) : (s.setSound b).pc = s.pc := rfl
@[simp] theorem State.setSound_sp (s : State) (b : Byte) : (s.setSound b).sp = s.sp := rfl
@[simp] theorem State.setSound_stack (s : State) (b : Byte) : (s.setSound b).stack = s.stack := rfl
@[simp] theorem State.setSound_fb (s : State) (b : Byte) : (s.setSound b).fb = s.fb := rfl
@[simp] theorem State.setSound_dt (s : State) (b : Byte) : (s.setSound b).dt = s.dt := rfl
@[simp] theorem State.setSound_st (s : State) (b : Byte) : (s.setSound b).st = b := rfl
@[simp] theorem State.setSound_status (s : State) (b : Byte) : (s.setSound b).status = s.status := rfl
@[simp] theorem State.setSound_shutdownReq (s : State) (b : Byte) : (s.setSound b).shutdownReq = s.shutdownReq := rfl
@[simp] theorem State.setSound_out (s : State) (b : Byte) : (s.setSound b).out = s.out := rfl
@[simp] theorem State.setSound_draws (s : State) (b : Byte) : (s.setSound b).draws = s.draws := rfl
@[simp] theorem State.setSound_turn (s : State) (b : Byte) : (s.setSound b).turn = s.turn := rfl
@[simp] theorem State.setSound_moves (s : State) (b : Byte) : (s.setSound b).moves = s.moves := rfl
@[simp] theorem State.setSound_reg (s : State) (b : Byte) (r : Reg) : (s.setSound b).reg r = s.reg r := rfl

/-! ### push -/

@[simp] theorem State.push_mem (s : State) (a : Word) : (s.push a).mem = s.mem := rfl
@[simp] theorem State.push_v (s : State) (a : Word) : (s.push a).v = s.v := rfl
@[simp] theorem State.push_i (s : State) (a : Word) : (s.push a).i = s.i := rfl
@[simp] theorem State.push_pc (s : State) (a : Word) : (s.push a).pc = s.pc := rfl
@[simp] theorem State.push_sp (s : State) (a : Word) : (s.push a).sp = s.sp + 1 := rfl
@[simp] theorem State.push_stack (s : State) (a : Word) : (s.push a).stack = s.stack.setIfInBounds s.sp.toNat a := rfl
@[simp] theorem State.push_fb (s : State) (a : Word) : (s.push a).fb = s.fb := rfl
@[simp] theorem State.push_dt (s : State) (a : Word) : (s.push a).dt = s.dt := rfl
@[simp] theorem State.push_st (s : State) (a : Word) : (s.push a).st = s.st := rfl
@[simp] theorem State.push_status (s : State) (a : Word) : (s.push a).status = s.status := rfl
@[simp] theorem State.push_shutdownReq (s : State) (a : Word) : (s.push a).shutdownReq = s.shutdownReq := rfl
@[simp] theorem State.push_out (s : State) (a : Word) : (s.push a).out = s.out := rfl
@[simp] theorem State.push_draws (s : State) (a : Word) : (s.push a).draws = s.draws := rfl
@[simp] theorem State.push_turn (s : State) (a : Word) : (s.push a).turn = s.turn := rfl
@[simp] theorem State.push_moves (s : State) (a : Word) : (s.push a).moves = s.moves := rfl
@[simp] theorem State.push_reg (s : State) (a : Word) (r : Reg) : (s.push a).reg r = s.reg r := rfl

/-! ### popPc -/

@[simp] theorem State.popPc_mem (s : State) : s.popPc.mem = s.mem := rfl
@[simp] theorem State.popPc_v (s : State) : s.popPc.v = s.v := rfl
@[simp] theorem State.popPc_i (s : State) : s.popPc.i = s.i := rfl
@[simp] theorem State.popPc_pc (s : State) : s.popPc.pc = s.stackEntry (s.sp - 1) := rfl
@[simp] theorem State.popPc_sp (s : State) : s.popPc.sp = s.sp - 1 := rfl
@[simp] theorem State.popPc_stack (s : State) : s.popPc.stack = s.stack := rfl
@[simp] theorem State.popPc_fb (s : State) : s.popPc.fb = s.fb := rfl
@[simp] theorem State.popPc_dt (s : State) : s.popPc.dt = s.dt := rfl
@[simp] theorem State.popPc_st (s : State) : s.popPc.st = s.st := rfl
@[simp] theorem State.popPc_status (s : State) : s.popPc.status = s.status := rfl
@[simp] theorem State.popPc_shutdownReq (s : State) : s.popPc.shutdownReq = s.shutdownReq := rfl
@[simp] theorem State.popPc_out (s : State) : s.popPc.out = s.out := rfl
@[simp] theorem State.popPc_draws (s : State) : s.popPc.draws = s.draws := rfl
@[simp] theorem State.popPc_turn (s : State) : s.popPc.turn = s.turn := rfl
@[simp] theorem State.popPc_moves (s : State) : s.popPc.moves = s.moves := rfl
@[simp] theorem State.popPc_reg (s : State) (r : Reg) : s.popPc.reg r = s.reg r := rfl

/-! ### loadUpTo -/

@[simp] theorem State.loadUpTo_mem (s : State) (a : Nat) (x : Reg) : (s.loadUpTo a x).mem = s.mem := rfl
@[simp] theorem State.loadUpTo_i (s : State) (a : Nat) (x : Reg) : (s.loadUpTo a x).i = s.i := rfl
@[simp] theorem State.loadUpTo_pc (s : State) (a : Nat) (x : Reg) : (s.loadUpTo a x).pc = s.pc := rfl
@[simp] theorem State.loadUpTo_sp (s : State) (a : Nat) (x : Reg) : (s.loadUpTo a x).sp = s.sp := rfl
@[simp] theorem State.loadUpTo_stack (s : State) (a : Nat) (x : Reg) : (s.loadUpTo a x).stack = s.stack := rfl
@[simp] theorem State.loadUpTo_fb (s : State) (a : Nat) (x : Reg) : (s.loadUpTo a x).fb = s.fb := rfl
@[simp] theorem State.loadUpTo_dt (s : State) (a : Nat) (x : Reg) : (s.loadUpTo a x).dt = s.dt := rfl
@[simp] theorem State.loadUpTo_st (s : State) (a : Nat) (x : Reg) : (s.loadUpTo a x).st = s.st := rfl
@[simp] theorem State.loadUpTo_status (s : State) (a : Nat) (x : Reg) : (s.loadUpTo a x).status = s.status := rfl
@[simp] theorem State.loadUpTo_shutdownReq (s : State) (a : Nat) (x : Reg) : (s.loadUpTo a x).shutdownReq = s.shutdownReq := rfl
@[simp] theorem State.loadUpTo_out (s : State) (a : Nat) (x : Reg) : (s.loadUpTo a x).out = s.out := rfl
@[simp] theorem State.loadUpTo_draws (s : State) (a : Nat) (x : Reg) : (s.loadUpTo a x).draws = s.draws := rfl
@[simp] theorem State.loadUpTo_turn (s : State) (a : Nat) (x : Reg) : (s.loadUpTo a x).turn = s.turn := rfl
@[simp] theorem State.loadUpTo_moves (s : State) (a : Nat) (x : Reg) : (s.loadUpTo a x).moves = s.moves := rfl

/-! ### nextDraw -/

@[simp] theorem State.nextDraw_mem (s : State) : s.nextDraw.mem = s.mem := rfl
@[simp] theorem State.nextDraw_v (s : State) : s.nextDraw.v = s.v := rfl
@[simp] theorem State.nextDraw_i (s : State) : s.nextDraw.i = s.i := rfl
@[simp] theorem State.nextDraw_pc (s : State) : s.nextDraw.pc = s.pc := rfl
@[simp] theorem State.nextDraw_sp (s : State) : s.nextDraw.sp = s.sp := rfl
@[simp] theorem State.nextDraw_stack (s : State) : s.nextDraw.stack = s.stack := rfl
@[simp] theorem State.nextDraw_fb (s : State) : s.nextDraw.fb = s.fb := rfl
@[simp] theorem State.nextDraw_dt (s : State) : s.nextDraw.dt = s.dt := rfl
@[simp] theorem State.nextDraw_st (s : State) : s.nextDraw.st = s.st := rfl
@[simp] theorem State.nextDraw_status (s : State) : s.nextDraw.status = s.status := rfl
@[simp] theorem State.nextDraw_shutdownReq (s : State) : s.nextDraw.shutdownReq = s.shutdownReq := rfl
@[simp] theorem State.nextDraw_out (s : State) : s.nextDraw.out = s.out := rfl
@[simp] theorem State.nextDraw_draws (s : State) : s.nextDraw.draws = s.draws + 1 := rfl
@[simp] theorem State.nextDraw_turn (s : State) : s.nextDraw.turn = s.turn := rfl
@[simp] theorem State.nextDraw_moves (s : State) : s.nextDraw.moves = s.moves := rfl
@[simp] theorem State.nextDraw_reg (s : State) (r : Reg) : s.nextDraw.reg r = s.reg r := rfl

/-! ### passTurn -/

@[simp] theorem State.passTurn_mem (s : State) : s.passTurn.mem = s.mem := rfl
@[simp] theorem State.passTurn_v (s : State) : s.passTurn.v = s.v := rfl
@[simp] theorem State.passTurn_i (s : State) : s.passTurn.i = s.i := rfl
@[simp] theorem State.passTurn_pc (s : State) : s.passTurn.pc = s.pc := rfl
@[simp] theorem State.passTurn_sp (s : State) : s.passTurn.sp = s.sp := rfl
@[simp] theorem State.passTurn_stack (s : State) : s.passTurn.stack = s.stack := rfl
@[simp] theorem State.passTurn_fb (s : State) : s.passTurn.fb = s.fb := rfl
@[simp] theorem State.passTurn_dt (s : State) : s.passTurn.dt = s.dt := rfl
@[simp] theorem State.passTurn_st (s : State) : s.passTurn.st = s.st := rfl
@[simp] theorem State.passTurn_status (s : State) : s.passTurn.status = s.status := rfl
@[simp] theorem State.passTurn_shutdownReq (s : State) : s.passTurn.shutdownReq = s.shutdownReq := rfl
@[simp] theorem State.passTurn_out (s : State) : s.passTurn.out = s.out := rfl
@[simp] theorem State.passTurn_draws (s : State) : s.passTurn.draws = s.draws := rfl
@[simp] theorem State.passTurn_turn (s : State) : s.passTurn.turn = Config.schedule (s.moves + 1) := rfl
@[simp] theorem State.passTurn_moves (s : State) : s.passTurn.moves = s.moves + 1 := rfl
@[simp] theorem State.passTurn_reg (s : State) (r : Reg) : s.passTurn.reg r = s.reg r := rfl

/-! ### setStatus -/

@[simp] theorem State.setStatus_mem (s : State) (r : Status) : (s.setStatus r).mem = s.mem := rfl
@[simp] theorem State.setStatus_v (s : State) (r : Status) : (s.setStatus r).v = s.v := rfl
@[simp] theorem State.setStatus_i (s : State) (r : Status) : (s.setStatus r).i = s.i := rfl
@[simp] theorem State.setStatus_pc (s : State) (r : Status) : (s.setStatus r).pc = s.pc := rfl
@[simp] theorem State.setStatus_sp (s : State) (r : Status) : (s.setStatus r).sp = s.sp := rfl
@[simp] theorem State.setStatus_stack (s : State) (r : Status) : (s.setStatus r).stack = s.stack := rfl
@[simp] theorem State.setStatus_fb (s : State) (r : Status) : (s.setStatus r).fb = s.fb := rfl
@[simp] theorem State.setStatus_dt (s : State) (r : Status) : (s.setStatus r).dt = s.dt := rfl
@[simp] theorem State.setStatus_st (s : State) (r : Status) : (s.setStatus r).st = s.st := rfl
@[simp] theorem State.setStatus_status (s : State) (r : Status) : (s.setStatus r).status = r := rfl
@[simp] theorem State.setStatus_shutdownReq (s : State) (r : Status) : (s.setStatus r).shutdownReq = s.shutdownReq := rfl
@[simp] theorem State.setStatus_out (s : State) (r : Status) : (s.setStatus r).out = s.out := rfl
@[simp] theorem State.setStatus_draws (s : State) (r : Status) : (s.setStatus r).draws = s.draws := rfl
@[simp] theorem State.setStatus_turn (s : State) (r : Status) : (s.setStatus r).turn = s.turn := rfl
@[simp] theorem State.setStatus_moves (s : State) (r : Status) : (s.setStatus r).moves = s.moves := rfl
@[simp] theorem State.setStatus_reg (s : State) (q : Status) (r : Reg) : (s.setStatus q).reg r = s.reg r := rfl

/-! ### requestShutdown -/

@[simp] theorem State.requestShutdown_mem (s : State) : s.requestShutdown.mem = s.mem := rfl
@[simp] theorem State.requestShutdown_v (s : State) : s.requestShutdown.v = s.v := rfl
@[simp] theorem State.requestShutdown_i (s : State) : s.requestShutdown.i = s.i := rfl
@[simp] theorem State.requestShutdown_pc (s : State) : s.requestShutdown.pc = s.pc := rfl
@[simp] theorem State.requestShutdown_sp (s : State) : s.requestShutdown.sp = s.sp := rfl
@[simp] theorem State.requestShutdown_stack (s : State) : s.requestShutdown.stack = s.stack := rfl
@[simp] theorem State.requestShutdown_fb (s : State) : s.requestShutdown.fb = s.fb := rfl
@[simp] theorem State.requestShutdown_dt (s : State) : s.requestShutdown.dt = s.dt := rfl
@[simp] theorem State.requestShutdown_st (s : State) : s.requestShutdown.st = s.st := rfl
@[simp] theorem State.requestShutdown_status (s : State) : s.requestShutdown.status = s.status := rfl
@[simp] theorem State.requestShutdown_shutdownReq (s : State) : s.requestShutdown.shutdownReq = true := rfl
@[simp] theorem State.requestShutdown_out (s : State) : s.requestShutdown.out = s.out := rfl
@[simp] theorem State.requestShutdown_draws (s : State) : s.requestShutdown.draws = s.draws := rfl
@[simp] theorem State.requestShutdown_turn (s : State) : s.requestShutdown.turn = s.turn := rfl
@[simp] theorem State.requestShutdown_moves (s : State) : s.requestShutdown.moves = s.moves := rfl
@[simp] theorem State.requestShutdown_reg (s : State) (r : Reg) : s.requestShutdown.reg r = s.reg r := rfl

/-! ### emit -/

@[simp] theorem State.emit_mem (s : State) (e : Event) : (s.emit e).mem = s.mem := rfl
@[simp] theorem State.emit_v (s : State) (e : Event) : (s.emit e).v = s.v := rfl
@[simp] theorem State.emit_i (s : State) (e : Event) : (s.emit e).i = s.i := rfl
@[simp] theorem State.emit_pc (s : State) (e : Event) : (s.emit e).pc = s.pc := rfl
@[simp] theorem State.emit_sp (s : State) (e : Event) : (s.emit e).sp = s.sp := rfl
@[simp] theorem State.emit_stack (s : State) (e : Event) : (s.emit e).stack = s.stack := rfl
@[simp] theorem State.emit_fb (s : State) (e : Event) : (s.emit e).fb = s.fb := rfl
@[simp] theorem State.emit_dt (s : State) (e : Event) : (s.emit e).dt = s.dt := rfl
@[simp] theorem State.emit_st (s : State) (e : Event) : (s.emit e).st = s.st := rfl
@[simp] theorem State.emit_status (s : State) (e : Event) : (s.emit e).status = s.status := rfl
@[simp] theorem State.emit_shutdownReq (s : State) (e : Event) : (s.emit e).shutdownReq = s.shutdownReq := rfl
@[simp] theorem State.emit_out (s : State) (e : Event) : (s.emit e).out = s.out ++ [e] := rfl
@[simp] theorem State.emit_draws (s : State) (e : Event) : (s.emit e).draws = s.draws := rfl
@[simp] theorem State.emit_turn (s : State) (e : Event) : (s.emit e).turn = s.turn := rfl
@[simp] theorem State.emit_moves (s : State) (e : Event) : (s.emit e).moves = s.moves := rfl
@[simp] theorem State.emit_reg (s : State) (e : Event) (r : Reg) : (s.emit e).reg r = s.reg r := rfl

/-! ### endRun -/

@[simp] theorem State.endRun_mem (s : State) (r : Status) (e : Event) : (s.endRun r e).mem = s.mem := rfl
@[simp] theorem State.endRun_v (s : State) (r : Status) (e : Event) : (s.endRun r e).v = s.v := rfl
@[simp] theorem State.endRun_i (s : State) (r : Status) (e : Event) : (s.endRun r e).i = s.i := rfl
@[simp] theorem State.endRun_pc (s : State) (r : Status) (e : Event) : (s.endRun r e).pc = s.pc := rfl
@[simp] theorem State.endRun_sp (s : State) (r : Status) (e : Event) : (s.endRun r e).sp = s.sp := rfl
@[simp] theorem State.endRun_stack (s : State) (r : Status) (e : Event) : (s.endRun r e).stack = s.stack := rfl
@[simp] theorem State.endRun_fb (s : State) (r : Status) (e : Event) : (s.endRun r e).fb = s.fb := rfl
@[simp] theorem State.endRun_dt (s : State) (r : Status) (e : Event) : (s.endRun r e).dt = s.dt := rfl
@[simp] theorem State.endRun_st (s : State) (r : Status) (e : Event) : (s.endRun r e).st = s.st := rfl
@[simp] theorem State.endRun_status (s : State) (r : Status) (e : Event) : (s.endRun r e).status = r := rfl
@[simp] theorem State.endRun_shutdownReq (s : State) (r : Status) (e : Event) : (s.endRun r e).shutdownReq = s.shutdownReq := rfl
@[simp] theorem State.endRun_out (s : State) (r : Status) (e : Event) : (s.endRun r e).out = s.out ++ e :: shutdownEvents := rfl
@[simp] theorem State.endRun_draws (s : State) (r : Status) (e : Event) : (s.endRun r e).draws = s.draws := rfl
@[simp] theorem State.endRun_turn (s : State) (r : Status) (e : Event) : (s.endRun r e).turn = s.turn := rfl
@[simp] theorem State.endRun_moves (s : State) (r : Status) (e : Event) : (s.endRun r e).moves = s.moves := rfl
@[simp] theorem State.endRun_reg (s : State) (q : Status) (e : Event) (r : Reg) : (s.endRun q e).reg r = s.reg r := rfl

/-! ### Reading a register after a write -/

@[simp] theorem State.setReg_reg_same (s : State) (x : Reg) (b : Byte) : (s.setReg x b).reg x = b := by
  simp [State.reg]

@[simp] theorem State.setReg_reg_ne (s : State) (x r : Reg) (b : Byte) (h : r ≠ x) :
    (s.setReg x b).reg r = s.reg r := by
  have h' : x.val ≠ r.val := fun e => h (Fin.eq_of_val_eq e.symm)
  simp [State.reg, State.setReg, h']

theorem State.setReg_reg (s : State) (x r : Reg) (b : Byte) :
    (s.setReg x b).reg r = if r = x then b else s.reg r := by
  by_cases h : r = x
  · subst h; simp
  · simp [h]

theorem State.loadUpTo_reg (s : State) (a : Nat) (x r : Reg) :
    (s.loadUpTo a x).reg r = if r ≤ x then s.mem.read (a + r.val) else s.reg r := by
  simp [State.reg, State.loadUpTo]

/-- Writing a flag last: VF holds the flag whatever the destination (R131). -/
theorem State.setRegFlag_reg (s : State) (x r : Reg) (b f : Byte) :
    (s.setRegFlag x b f).reg r = if r = vf then f else if r = x then b else s.reg r := by
  simp [State.setRegFlag, State.setReg_reg]

end Sys2Proof.Machine
end

