-- ==== Sys2Proof/Laws/Ops.lean ====
section
/-! SUPPORT. One lemma for each shared operation, saying once what it can do. -/

namespace Sys2Proof.Machine

theorem onNext_eq_next (f : State → State) (r : Result) (t : State) :
    onNext f r = .next t ↔ ∃ u, r = .next u ∧ t = f u := by
  cases r <;> simp [onNext, eq_comm]

@[simp] theorem onNext_next (f : State → State) (s : State) : onNext f (.next s) = .next (f s) := rfl

@[simp] theorem fits_iff (i : Word) (count : Nat) : fits i count = true ↔ i.toNat + count ≤ 4096 := by
  simp [fits]

/-- A fatal error changes the status and sends the events of the run's end, and nothing else (R260). -/
theorem State.fatal_eq (s : State) (kind : FatalKind) (w : Word) :
    s.fatal kind w = { s with
      status := .fault kind (s.pc - 2) w
      out := s.out ++ .fault kind (s.pc - 2) w :: shutdownEvents } := rfl

theorem advance_back (s : State) : s.advancePc.pc - 2 = s.pc := by simp

theorem State.skipIf_eq (s : State) (c : Bool) : s.skipIf c = { s with pc := if c then s.pc + 2 else s.pc } := rfl

theorem addrOperand_toNat (nnn : Addr) : (addrOperand nnn).toNat = nnn.toNat := by
  simp [addrOperand]; omega

theorem State.regOperand_toNat (s : State) (x : Reg) : (s.regOperand x).toNat = (s.reg x).toNat := by
  simp [State.regOperand]; omega

theorem glyphAddress_toNat (b : Byte) : (glyphAddress b).toNat = 5 * b.toNat := by
  have := b.isLt
  simp [glyphAddress, BitVec.toNat_mul, Config.glyphHeight]; omega

theorem keyOperand_toNat (k : Key) : (keyOperand k).toNat = k.val := by
  simp [keyOperand]; omega

/-- An engine step that reaches an instruction: the run lasts, it is the engine's turn, nothing stops it. -/
theorem step_engine (s : State) (hr : s.status = .running) (ht : s.turn = .engine) (hs : s.shutdownReq = false)
    (hp : s.pc.toNat + 2 ≤ 4096) :
    step s = onNext State.passTurn (onNext State.renderIfRunning (runWord (fetchWord s) s.advancePc)) := by
  have hb : ¬ 4096 < s.pc.toNat + 2 := by omega
  simp [step, machineStep, runEnded, actionOf, engineStep, State.isBlocked, hr, ht, hs, hb]

/-- What one step can be: the action of the agent whose turn it is, while the run lasts. -/
theorem step_eq_next (s t : State) :
    step s = .next t ↔ runEnded s.status = none ∧ ∃ u, actionOf s.turn s = .next u ∧ t = u.passTurn := by
  unfold step machineStep
  cases h : runEnded s.status with
  | none => simp [onNext_eq_next]
  | some r => simp

end Sys2Proof.Machine
end

