-- ==== Sys2Proof/Laws/PerInstr.lean ====
section
/-! SUPPORT. Per instruction, as syntax: its encoded word matches its own row of the opcode table (R77). -/

namespace Sys2Proof.Laws

/-- The encoded word matches the row of the instruction's name. -/
def EncodedRow.Statement (i : Instr) : Prop :=
  ∃ r ∈ opcodeRows, r.mnemonic = i.mnemonic ∧ r.Matches (encode i)

theorem EncodedRow.cls : EncodedRow.Statement .cls :=
  ⟨⟨"CLS", 0xFFFF, 0x00E0⟩, by decide, rfl, rfl⟩

theorem EncodedRow.ret : EncodedRow.Statement .ret :=
  ⟨⟨"RET", 0xFFFF, 0x00EE⟩, by decide, rfl, rfl⟩

theorem EncodedRow.jp (nnn : Addr) : EncodedRow.Statement (.jp nnn) :=
  ⟨⟨"JP_nnn", 0xF000, 0x1000⟩, by decide, rfl, and_F000_encodeNnn _ _⟩

theorem EncodedRow.call (nnn : Addr) : EncodedRow.Statement (.call nnn) :=
  ⟨⟨"CALL_nnn", 0xF000, 0x2000⟩, by decide, rfl, and_F000_encodeNnn _ _⟩

theorem EncodedRow.seImm (x : Reg) (kk : Byte) : EncodedRow.Statement (.seImm x kk) :=
  ⟨⟨"SE_Vx__kk", 0xF000, 0x3000⟩, by decide, rfl, and_F000_encodeXKk _ _ _⟩

theorem EncodedRow.sneImm (x : Reg) (kk : Byte) : EncodedRow.Statement (.sneImm x kk) :=
  ⟨⟨"SNE_Vx__kk", 0xF000, 0x4000⟩, by decide, rfl, and_F000_encodeXKk _ _ _⟩

theorem EncodedRow.seReg (x : Reg) (y : Reg) : EncodedRow.Statement (.seReg x y) :=
  ⟨⟨"SE_Vx__Vy", 0xF00F, 0x5000⟩, by decide, rfl, and_F00F_encodeXYN _ _ _ _⟩

theorem EncodedRow.ldImm (x : Reg) (kk : Byte) : EncodedRow.Statement (.ldImm x kk) :=
  ⟨⟨"LD_Vx__kk", 0xF000, 0x6000⟩, by decide, rfl, and_F000_encodeXKk _ _ _⟩

theorem EncodedRow.addImm (x : Reg) (kk : Byte) : EncodedRow.Statement (.addImm x kk) :=
  ⟨⟨"ADD_Vx__kk", 0xF000, 0x7000⟩, by decide, rfl, and_F000_encodeXKk _ _ _⟩

theorem EncodedRow.ldReg (x : Reg) (y : Reg) : EncodedRow.Statement (.ldReg x y) :=
  ⟨⟨"LD_Vx__Vy", 0xF00F, 0x8000⟩, by decide, rfl, and_F00F_encodeXYN _ _ _ _⟩

theorem EncodedRow.orReg (x : Reg) (y : Reg) : EncodedRow.Statement (.orReg x y) :=
  ⟨⟨"OR_Vx__Vy", 0xF00F, 0x8001⟩, by decide, rfl, and_F00F_encodeXYN _ _ _ _⟩

theorem EncodedRow.andReg (x : Reg) (y : Reg) : EncodedRow.Statement (.andReg x y) :=
  ⟨⟨"AND_Vx__Vy", 0xF00F, 0x8002⟩, by decide, rfl, and_F00F_encodeXYN _ _ _ _⟩

theorem EncodedRow.xorReg (x : Reg) (y : Reg) : EncodedRow.Statement (.xorReg x y) :=
  ⟨⟨"XOR_Vx__Vy", 0xF00F, 0x8003⟩, by decide, rfl, and_F00F_encodeXYN _ _ _ _⟩

theorem EncodedRow.addReg (x : Reg) (y : Reg) : EncodedRow.Statement (.addReg x y) :=
  ⟨⟨"ADD_Vx__Vy", 0xF00F, 0x8004⟩, by decide, rfl, and_F00F_encodeXYN _ _ _ _⟩

theorem EncodedRow.subReg (x : Reg) (y : Reg) : EncodedRow.Statement (.subReg x y) :=
  ⟨⟨"SUB_Vx__Vy", 0xF00F, 0x8005⟩, by decide, rfl, and_F00F_encodeXYN _ _ _ _⟩

theorem EncodedRow.shr (x : Reg) (y : Reg) : EncodedRow.Statement (.shr x y) :=
  ⟨⟨"SHR_Vx____Vy", 0xF00F, 0x8006⟩, by decide, rfl, and_F00F_encodeXYN _ _ _ _⟩

theorem EncodedRow.subn (x : Reg) (y : Reg) : EncodedRow.Statement (.subn x y) :=
  ⟨⟨"SUBN_Vx__Vy", 0xF00F, 0x8007⟩, by decide, rfl, and_F00F_encodeXYN _ _ _ _⟩

theorem EncodedRow.shl (x : Reg) (y : Reg) : EncodedRow.Statement (.shl x y) :=
  ⟨⟨"SHL_Vx____Vy", 0xF00F, 0x800E⟩, by decide, rfl, and_F00F_encodeXYN _ _ _ _⟩

theorem EncodedRow.sneReg (x : Reg) (y : Reg) : EncodedRow.Statement (.sneReg x y) :=
  ⟨⟨"SNE_Vx__Vy", 0xF00F, 0x9000⟩, by decide, rfl, and_F00F_encodeXYN _ _ _ _⟩

theorem EncodedRow.ldI (nnn : Addr) : EncodedRow.Statement (.ldI nnn) :=
  ⟨⟨"LD_I__nnn", 0xF000, 0xA000⟩, by decide, rfl, and_F000_encodeNnn _ _⟩

theorem EncodedRow.jpV0 (nnn : Addr) : EncodedRow.Statement (.jpV0 nnn) :=
  ⟨⟨"JP_V0__nnn", 0xF000, 0xB000⟩, by decide, rfl, and_F000_encodeNnn _ _⟩

theorem EncodedRow.rnd (x : Reg) (kk : Byte) : EncodedRow.Statement (.rnd x kk) :=
  ⟨⟨"RND_Vx__kk", 0xF000, 0xC000⟩, by decide, rfl, and_F000_encodeXKk _ _ _⟩

theorem EncodedRow.drw (x : Reg) (y : Reg) (n : Nibble) : EncodedRow.Statement (.drw x y n) :=
  ⟨⟨"DRW_Vx__Vy__n", 0xF000, 0xD000⟩, by decide, rfl, and_F000_encodeXYN _ _ _ _⟩

theorem EncodedRow.skp (x : Reg) : EncodedRow.Statement (.skp x) :=
  ⟨⟨"SKP_Vx", 0xF0FF, 0xE09E⟩, by decide, rfl, and_F0FF_encodeXKk _ _ _⟩

theorem EncodedRow.sknp (x : Reg) : EncodedRow.Statement (.sknp x) :=
  ⟨⟨"SKNP_Vx", 0xF0FF, 0xE0A1⟩, by decide, rfl, and_F0FF_encodeXKk _ _ _⟩

theorem EncodedRow.ldVxDt (x : Reg) : EncodedRow.Statement (.ldVxDt x) :=
  ⟨⟨"LD_Vx__DT", 0xF0FF, 0xF007⟩, by decide, rfl, and_F0FF_encodeXKk _ _ _⟩

theorem EncodedRow.ldVxK (x : Reg) : EncodedRow.Statement (.ldVxK x) :=
  ⟨⟨"LD_Vx__K", 0xF0FF, 0xF00A⟩, by decide, rfl, and_F0FF_encodeXKk _ _ _⟩

theorem EncodedRow.ldDtVx (x : Reg) : EncodedRow.Statement (.ldDtVx x) :=
  ⟨⟨"LD_DT__Vx", 0xF0FF, 0xF015⟩, by decide, rfl, and_F0FF_encodeXKk _ _ _⟩

theorem EncodedRow.ldStVx (x : Reg) : EncodedRow.Statement (.ldStVx x) :=
  ⟨⟨"LD_ST__Vx", 0xF0FF, 0xF018⟩, by decide, rfl, and_F0FF_encodeXKk _ _ _⟩

theorem EncodedRow.addI (x : Reg) : EncodedRow.Statement (.addI x) :=
  ⟨⟨"ADD_I__Vx", 0xF0FF, 0xF01E⟩, by decide, rfl, and_F0FF_encodeXKk _ _ _⟩

theorem EncodedRow.ldF (x : Reg) : EncodedRow.Statement (.ldF x) :=
  ⟨⟨"LD_F__Vx", 0xF0FF, 0xF029⟩, by decide, rfl, and_F0FF_encodeXKk _ _ _⟩

theorem EncodedRow.ldB (x : Reg) : EncodedRow.Statement (.ldB x) :=
  ⟨⟨"LD_B__Vx", 0xF0FF, 0xF033⟩, by decide, rfl, and_F0FF_encodeXKk _ _ _⟩

theorem EncodedRow.store (x : Reg) : EncodedRow.Statement (.store x) :=
  ⟨⟨"LD__I___Vx", 0xF0FF, 0xF055⟩, by decide, rfl, and_F0FF_encodeXKk _ _ _⟩

theorem EncodedRow.load (x : Reg) : EncodedRow.Statement (.load x) :=
  ⟨⟨"LD_Vx___I", 0xF0FF, 0xF065⟩, by decide, rfl, and_F0FF_encodeXKk _ _ _⟩

end Sys2Proof.Laws
end

