-- ==== Sys2Proof/Tests/Slice0.lean ====
section
/-! SUPPORT. Small tests of single steps, with the expected values of `95_test_vectors.md` (S1 to S13, T1 to T154)
or of the rule named, and for every statement with hypotheses concrete states and operands that meet them. -/

namespace Sys2Proof.Tests

open Sys2Proof Sys2Proof.Machine

/-! ### Helpers -/

/-- One observation of the next state; none at a fault or a refusal. -/
def after {α : Type} (r : Result) (f : State → α) : Option α :=
  match r with
  | .next s => some (f s)
  | .fault _ | .refused _ => none

/-- Reset, with the engine's turn: the first action is otherwise the free schedule's (log 37). -/
def ready : State := { State.reset with turn := .engine }

/-- Reset, then the changes `f`, with the word placed for the next fetch (at 0x200 unless `f` moves pc). -/
def start (w : Nat) (f : State → State) : State := (f State.reset).withFetchWord 16 w

/-- Reset with up to three registers written. -/
def regs (ws : List (Reg × Byte)) (s : State) : State := ws.foldl (fun s p => s.setReg p.1 p.2) s

/-- Vx and VF after one step. -/
def xAndFlag (x : Reg) (s : State) : Byte × Byte := (s.reg x, s.reg vf)

/-- `n` bytes of memory. -/
def bytes (a n : Nat) (s : State) : List Byte := (List.range n).map (fun k => s.mem.read (a + k))

/-- The first `n` pixels of a row. -/
def pixels (y n : Nat) (s : State) : List Bool := (List.range n).map (fun x => Framebuffer.pixel s.fb x y)

/-! ### Well-formedness -/

/-- Every term of Instr is well formed: each field is exactly as wide as its slice of the word (R74). -/
theorem test_wellFormed_widest_fields :
    (Instr.drw 15 15 15).wellFormed = true ∧ (Instr.jp 0xFFF).wellFormed = true := by decide

/-- S8: an image of 3584 bytes is well formed. -/
theorem test_wellFormed_longest_image : imageWellFormed (List.replicate 3584 0) = true := by
  rw [imageWellFormed, List.length_replicate]; decide

/-- S8: the ill-formed term: an image one byte longer is refused. -/
theorem test_wellFormed_refuses_longer_image : imageWellFormed (List.replicate 3585 0) = false := by
  rw [imageWellFormed, List.length_replicate]; decide

/-! ### Decoding: words written out from R77, one for each constructor -/

theorem test_decode_control :
    decodeWord 0x00EE = .ok .ret ∧ decodeWord 0x1ABC = .ok (.jp 0xABC) ∧ decodeWord 0x2DEF = .ok (.call 0xDEF) ∧
    decodeWord 0x31A5 = .ok (.seImm 1 0xA5) ∧ decodeWord 0x42B6 = .ok (.sneImm 2 0xB6) ∧
    decodeWord 0x5340 = .ok (.seReg 3 4) ∧ decodeWord 0x9560 = .ok (.sneReg 5 6) ∧
    decodeWord 0xB123 = .ok (.jpV0 0x123) := by decide

theorem test_decode_alu :
    decodeWord 0x6C7D = .ok (.ldImm 0xC 0x7D) ∧ decodeWord 0x7E8F = .ok (.addImm 0xE 0x8F) ∧
    decodeWord 0x8120 = .ok (.ldReg 1 2) ∧ decodeWord 0x8341 = .ok (.orReg 3 4) ∧
    decodeWord 0x8562 = .ok (.andReg 5 6) ∧ decodeWord 0x8783 = .ok (.xorReg 7 8) ∧
    decodeWord 0x89A4 = .ok (.addReg 9 0xA) ∧ decodeWord 0x8BC5 = .ok (.subReg 0xB 0xC) ∧
    decodeWord 0x8DE6 = .ok (.shr 0xD 0xE) ∧ decodeWord 0x8F07 = .ok (.subn 0xF 0) ∧
    decodeWord 0x812E = .ok (.shl 1 2) ∧ decodeWord 0xC3F0 = .ok (.rnd 3 0xF0) := by decide

theorem test_decode_index_memory :
    decodeWord 0xA456 = .ok (.ldI 0x456) ∧ decodeWord 0xF11E = .ok (.addI 1) ∧ decodeWord 0xF229 = .ok (.ldF 2) ∧
    decodeWord 0xF333 = .ok (.ldB 3) ∧ decodeWord 0xF455 = .ok (.store 4) ∧ decodeWord 0xF565 = .ok (.load 5) := by
  decide

theorem test_decode_display :
    decodeWord 0x00E0 = .ok .cls ∧ decodeWord 0xD12F = .ok (.drw 1 2 0xF) := by decide

theorem test_decode_keys_timers :
    decodeWord 0xE19E = .ok (.skp 1) ∧ decodeWord 0xE2A1 = .ok (.sknp 2) ∧ decodeWord 0xF307 = .ok (.ldVxDt 3) ∧
    decodeWord 0xF40A = .ok (.ldVxK 4) ∧ decodeWord 0xF515 = .ok (.ldDtVx 5) ∧
    decodeWord 0xF618 = .ok (.ldStVx 6) := by decide

/-- T4, R84: the byte at the lower address is the high half of the word; one byte alone is not an instruction. -/
theorem test_decode_bytes :
    decodeBytes [0x8A, 0xB4, 0x77] = .ok (.addReg 0xA 0xB, [0x77]) ∧ decodeBytes [0x8A] = .error .tooShort := by
  decide

/-- T7, T8. -/
theorem test_decode_unknown :
    decodeWord 0x0123 = .error (.unknownWord 0x0123) ∧ decodeWord 0x812F = .error (.unknownWord 0x812F) := by decide

/-! ### Step, fetch, end of run -/

/-- T1: pc = 0xFFE still fetches, `6042` executes and pc is 0x1000. -/
theorem test_step_last_word :
    after (step (start 0x6042 (·.setPc 0xFFE))) (fun t => (t.reg 0, t.pc, t.status)) =
      some (0x42, 0x1000, .running) := by decide

/-- T2: pc = 0xFFF is Finished, with no render. -/
theorem test_step_finished :
    after (step (ready.setPc 0xFFF)) (fun t => (t.status, t.out)) = some (.finished, endEvents .finished) := by
  decide

/-- T5: an odd pc is fetched as it is. -/
theorem test_step_odd_pc :
    after (step (start 0x602A (·.setPc 0x201))) (fun t => (t.reg 0, t.pc)) = some (0x2A, 0x203) := by decide

/-- S13: an unknown word is reported, and the step renders. -/
theorem test_step_unknown :
    after (step (start 0x5121 id)) (fun t => (t.pc, t.out)) =
      some (0x202, [.diag 0x200 0x5121, .render Framebuffer.clear]) := by decide

/-- T10: a pending shutdown is taken before the fetch. -/
theorem test_step_shutdown :
    after (step ready.requestShutdown) (fun t => (t.status, t.pc, t.out)) =
      some (.stopped, 0x200, endEvents .stopped) := by decide

/-- R292, R304: the host may set the request before the first engine step. -/
theorem test_shutdown_before_first_step :
    after (step { State.reset with turn := .shutdown }) (fun t => (t.status, t.shutdownReq, t.pc)) =
      some (.running, true, 0x200) := by decide

/-! ### Control transfer -/

/-- T22. -/
theorem test_jp : after (step (start 0x1201 id)) State.pc = some 0x201 := by decide

/-- T23. -/
theorem test_call :
    after (step (start 0x2300 (·.setPc 0x204))) (fun t => (t.stackEntry 0, t.sp, t.pc)) =
      some (0x206, 1, 0x300) := by decide

/-- T25. -/
theorem test_call_overflow :
    after (step (start 0x2300 (fun s => { s with sp := 16 }))) State.status =
      some (.fault .stackOverflow 0x200 0x2300) := by decide

/-- T26. -/
theorem test_ret :
    after (step (start 0x00EE (·.push 0x206))) (fun t => (t.sp, t.pc, t.stackEntry 0)) =
      some (0, 0x206, 0x206) := by decide

/-- T27. -/
theorem test_ret_underflow :
    after (step (start 0x00EE id)) State.status = some (.fault .stackUnderflow 0x200 0x00EE) := by decide

/-- T28, T29. -/
theorem test_seImm :
    after (step (start 0x3110 (regs [(1, 0x10)]))) State.pc = some 0x204 ∧
    after (step (start 0x3110 (regs [(1, 0x11)]))) State.pc = some 0x202 := by decide

/-- T30, T31. -/
theorem test_sneImm :
    after (step (start 0x4110 (regs [(1, 0x11)]))) State.pc = some 0x204 ∧
    after (step (start 0x4110 (regs [(1, 0x10)]))) State.pc = some 0x202 := by decide

/-- T32, and R106 with unequal registers. -/
theorem test_seReg :
    after (step (start 0x5230 (regs [(2, 7), (3, 7)]))) State.pc = some 0x204 ∧
    after (step (start 0x5230 (regs [(2, 7), (3, 8)]))) State.pc = some 0x202 := by decide

/-- T34, T35. -/
theorem test_sneReg :
    after (step (start 0x9230 (regs [(2, 1), (3, 2)]))) State.pc = some 0x204 ∧
    after (step (start 0x9220 id)) State.pc = some 0x202 := by decide

/-- T37: not masked. -/
theorem test_jpV0 : after (step (start 0xBFFF (regs [(0, 0xFF)]))) State.pc = some 0x10FE := by decide

/-! ### Loads, arithmetic, logic, shifts, random -/

/-- T50. -/
theorem test_ldImm : after (step (start 0x652A id)) (State.reg · 5) = some 0x2A := by decide

/-- T51: VF stays. -/
theorem test_addImm :
    after (step (start 0x7101 (regs [(1, 0xFF), (vf, 0x77)]))) (xAndFlag 1) = some (0x00, 0x77) := by decide

/-- T53: with x = F the sum stays. -/
theorem test_addImm_vf : after (step (start 0x7F01 (regs [(vf, 0x10)]))) (State.reg · vf) = some 0x11 := by decide

/-- T54. -/
theorem test_ldReg : after (step (start 0x8120 (regs [(2, 0x33)]))) (State.reg · 1) = some 0x33 := by decide

/-- T55: VF stays. -/
theorem test_orReg :
    after (step (start 0x8121 (regs [(1, 0xF0), (2, 0x0F), (vf, 0x55)]))) (xAndFlag 1) = some (0xFF, 0x55) := by
  decide

/-- T56. -/
theorem test_andReg :
    after (step (start 0x8122 (regs [(1, 0xF0), (2, 0x3C)]))) (State.reg · 1) = some 0x30 := by decide

/-- T57. -/
theorem test_xorReg :
    after (step (start 0x8123 (regs [(1, 0xF0), (2, 0x3C)]))) (State.reg · 1) = some 0xCC := by decide

/-- T60, T61: a sum of 255 and one of 256. -/
theorem test_addReg :
    after (step (start 0x8124 (regs [(1, 0x7F), (2, 0x80)]))) (xAndFlag 1) = some (0xFF, 0) ∧
    after (step (start 0x8124 (regs [(1, 0x80), (2, 0x80)]))) (xAndFlag 1) = some (0x00, 1) := by decide

/-- T63, T65: VF as destination keeps the flag; VF as source is read first. -/
theorem test_addReg_vf :
    after (step (start 0x8F24 (regs [(vf, 0xFF), (2, 2)]))) (State.reg · vf) = some 1 ∧
    after (step (start 0x81F4 (regs [(1, 1), (vf, 0xFF)]))) (xAndFlag 1) = some (0, 1) := by decide

/-- T66 to T68. -/
theorem test_subReg :
    after (step (start 0x8125 (regs [(1, 5), (2, 3)]))) (xAndFlag 1) = some (2, 1) ∧
    after (step (start 0x8125 (regs [(1, 3), (2, 5)]))) (xAndFlag 1) = some (0xFE, 0) ∧
    after (step (start 0x8125 (regs [(1, 7), (2, 7)]))) (xAndFlag 1) = some (0, 0) := by decide

/-- T69. -/
theorem test_subReg_vf :
    after (step (start 0x8F25 (regs [(vf, 9), (2, 3)]))) (State.reg · vf) = some 1 := by decide

/-- T70, T71: Vy is ignored. -/
theorem test_shr :
    after (step (start 0x8106 (regs [(1, 0x81)]))) (xAndFlag 1) = some (0x40, 1) ∧
    after (step (start 0x8126 (regs [(1, 2), (2, 0xFF)]))) (xAndFlag 1) = some (1, 0) := by decide

/-- T73 to T75. -/
theorem test_subn :
    after (step (start 0x8127 (regs [(1, 3), (2, 5)]))) (xAndFlag 1) = some (2, 1) ∧
    after (step (start 0x8127 (regs [(1, 5), (2, 3)]))) (xAndFlag 1) = some (0xFE, 0) ∧
    after (step (start 0x8127 (regs [(1, 4), (2, 4)]))) (xAndFlag 1) = some (0, 0) := by decide

/-- T76, T78. -/
theorem test_shl :
    after (step (start 0x810E (regs [(1, 0x81)]))) (xAndFlag 1) = some (2, 1) ∧
    after (step (start 0x8F0E (regs [(vf, 0x80)]))) (State.reg · vf) = some 1 := by decide

/-- T80: a zero mask hides every draw, and the draw is taken. -/
theorem test_rnd :
    after (step (start 0xC300 (regs [(3, 0x99)]))) State.draws = some 1 ∧
    (∀ b : Byte, b &&& 0x00 = 0x00) := by
  exact ⟨by decide, fun b => by simp⟩

/-! ### Index register and memory -/

/-- T90. -/
theorem test_ldI : after (step (start 0xA300 id)) State.i = some 0x300 := by decide

/-- T92, T93. -/
theorem test_addI :
    after (step (start 0xF11E (fun s => (regs [(1, 1)] s).setI 0xFFFF))) State.i = some 0 ∧
    after (step (start 0xF11E (fun s => (regs [(1, 1)] s).setI 0x0FFF))) State.i = some 0x1000 := by decide

/-- T94, T96: not masked. -/
theorem test_ldF :
    after (step (start 0xF229 (regs [(2, 0x0A)]))) State.i = some 50 ∧
    after (step (start 0xF229 (regs [(2, 0xFF)]))) State.i = some 1275 := by decide

/-- T100: the last three bytes of memory. -/
theorem test_ldB :
    after (step (start 0xF133 (fun s => (regs [(1, 123)] s).setI 4093))) (bytes 4093 3) = some [1, 2, 3] := by decide

/-- T101. -/
theorem test_ldB_out :
    after (step (start 0xF133 (·.setI 4094))) State.status = some (.fault .bcdOutOfBounds 0x200 0xF133) := by decide

/-- T102: I stays. -/
theorem test_store :
    after (step (start 0xF155 (fun s => (regs [(0, 0x11), (1, 0x22)] s).setI 0x400)))
      (fun t => (bytes 0x400 3 t, t.i)) = some ([0x11, 0x22, 0x00], 0x400) := by decide

/-- T104. -/
theorem test_store_out :
    after (step (start 0xF155 (·.setI 4095))) State.status = some (.fault .storeOutOfBounds 0x200 0xF155) := by decide

/-- T106 with other bytes: V0 to V2 are loaded, V3 stays, I stays. -/
theorem test_load :
    after (step (start 0xF265
        (fun s => (regs [(3, 0x77)] (s.setMem (s.mem.writeBytes 0x300 [9, 1, 5, 6]))).setI 0x300)))
      (fun t => (t.reg 0, t.reg 1, t.reg 2, t.reg 3, t.i)) = some (9, 1, 5, 0x77, 0x300) := by decide

/-- T109. -/
theorem test_load_out :
    after (step (start 0xF065 (·.setI 0x1000))) State.status = some (.fault .loadOutOfBounds 0x200 0xF065) := by
  decide

/-- T110 and R54: the font is ordinary storage, and writing back the reset byte lists nothing. -/
theorem test_memory_canonical :
    (State.reset.mem.write 0 0xAA) = [(0, 0xAA)] ∧ ((State.reset.mem.write 0 0xAA).write 0 0xF0) = [] ∧
    Memory.write [] 4096 0x55 = [] := by decide

/-! ### Display -/

/-- T120 with a lit pixel. -/
theorem test_cls :
    after (step (start 0x00E0 (fun s => (regs [(vf, 5)] s).setFb (s.fb.setPixel 63 31 true))))
      (fun t => (Framebuffer.pixel t.fb 63 31, t.reg vf)) = some (false, 5) := by decide

/-- T121: the glyph 0 at the origin, first two rows. -/
theorem test_drw :
    after (step (start 0xD015 id)) (fun t => (pixels 0 5 t, pixels 1 5 t, t.reg vf)) =
      some ([true, true, true, true, false], [true, false, false, true, false], 0) := by decide

/-- T133 in a clipped place (T124): column 63, row 31; the rest of the sprite is clipped; VF is 1. -/
theorem test_drw_clip :
    after (step (start 0xD015 (fun s => (regs [(0, 62), (1, 31)] s).setFb (s.fb.setPixel 63 31 true))))
      (fun t => (Framebuffer.pixel t.fb 62 31, Framebuffer.pixel t.fb 63 31, Framebuffer.pixel t.fb 0 31,
        Framebuffer.pixel t.fb 62 0, t.reg vf)) = some (true, false, false, false, 1) := by decide

/-! ### Keys and timers -/

/-- T140, T141: the pc for either answer of the keyboard. -/
theorem test_skp :
    after (exec (.skp 1) ((regs [(1, 5)] State.reset).setPc 0x202)) State.pc =
      some (if Config.keyPressed 0 5 = true then 0x204 else 0x202) := rfl

/-- T142. -/
theorem test_sknp :
    after (exec (.sknp 1) ((regs [(1, 5)] State.reset).setPc 0x202)) State.pc =
      some (if Config.keyPressed 0 5 = true then 0x202 else 0x204) := by
  cases h : Config.keyPressed 0 5
  · exact congrArg (fun b => some (if (!b) = true then (0x204 : Word) else 0x202)) h
  · exact congrArg (fun b => some (if (!b) = true then (0x204 : Word) else 0x202)) h

/-- T144. -/
theorem test_ldVxDt : after (step (start 0xF407 (·.setDelay 0x2A))) (State.reg · 4) = some 0x2A := by decide

/-- T145: blocked, with no render. -/
theorem test_ldVxK :
    after (step (start 0xF30A id)) (fun t => (t.status, t.pc, t.out)) = some (.blocked 3, 0x202, []) := by decide

/-- T145: the key arrives; one render. -/
theorem test_ldVxK_key :
    after (step { State.reset with status := .blocked 3, turn := .keyPress 0xB })
      (fun t => (t.status, t.reg 3, t.out)) = some (.running, 0x0B, [.render Framebuffer.clear]) := by decide

/-- T148, T151. -/
theorem test_ldDtVx :
    after (step (start 0xF115 (regs [(1, 3)]))) State.dt = some 3 ∧
    after (step (start 0xF015 (·.setDelay 7))) State.dt = some 0 := by decide

/-- T150. -/
theorem test_ldStVx : after (step (start 0xF118 (regs [(1, 2)]))) State.st = some 2 := by decide

/-- T150, T152: a tick of an Armed sound timer beeps; an Idle one does not tick. -/
theorem test_soundTick :
    after (step { State.reset with st := 2, turn := .soundTick }) (fun t => (t.st, t.out)) = some (1, [.beep 16]) ∧
    after (step { State.reset with turn := .soundTick }) (fun t => (t.st, t.out)) = some (0, []) := by decide

/-- T147: a tick while Blocked. -/
theorem test_delayTick_blocked :
    after (step { State.reset with dt := 2, status := .blocked 3, turn := .delayTick })
      (fun t => (t.dt, t.status)) = some (1, .blocked 3) := by decide

/-- T146. -/
theorem test_shutdown_blocked :
    after (step { State.reset with status := .blocked 3, turn := .shutdown }) (fun t => (t.status, t.reg 3, t.out)) =
      some (.stopped, 0, endEvents .stopped) := by decide

/-! ### Witnesses: states and operands that meet the hypotheses of the statements, clause by clause -/

/-- A state in the middle of a run, two calls deep. -/
def mid : State :=
  { ready with
    mem := [(0x300, 0x12), (0xFFF, 0x34)]
    v := (regs [(1, 0x21), (2, 0x7F), (vf, 1)] State.reset).v
    i := 0x300
    pc := 0x206
    sp := 2
    stack := (State.reset.stack.set 0 0x1000).set 1 0x204
    fb := Framebuffer.clear.setPixel 1 0 true
    dt := 3
    st := 2
    out := [.beep 16]
    draws := 5
    moves := 9 }

theorem mid_returnAddresses : ∀ a ∈ mid.stack.toList, a.toNat ≤ 0x1000 := by
  have h : mid.stack.toList = 0x1000 :: 0x204 :: List.replicate 14 0 := by decide
  rw [h]; simp

/-- `mid` satisfies the invariant, with entries at its bounds: a return address of 4096, a byte at 4095. -/
theorem witness_inv : mid.Inv :=
  fun _ => ⟨by decide, by decide, by decide, mid_returnAddresses, by decide, by
    intro x h; simp [mid, ready, State.reset] at h⟩

theorem witness_EncodeOfDecodedWord : decodeWord 0x8AB4 = .ok (.addReg 0xA 0xB) := by decide

theorem witness_DecodeFollowsOpcodeTable :
    decodeWord 0x00EE = .ok .ret ∧ (∃ r ∈ opcodeRows, r.Matches 0x00EE) ∧ (∃ r ∈ opcodeRows, r.Matches 0xFF65) ∧
    (∀ r ∈ opcodeRows, ¬ r.Matches 0x00EF) ∧ (∀ r ∈ opcodeRows, ¬ r.Matches 0xFFFF) := by decide

theorem witness_NoWordMatchesTwoRows :
    ∃ r ∈ opcodeRows, ∃ r' ∈ opcodeRows, r.Matches 0x8128 = False ∧ r.Matches 0x812E ∧ r'.Matches 0x812E := by
  simp only [eq_iff_iff, iff_false]
  decide

/-- The last pc at which an instruction is fetched. -/
theorem witness_StepRunsDecodedInstruction :
    let s := start 0x6042 (·.setPc 0xFFE)
    s.status = .running ∧ s.turn = .engine ∧ s.shutdownReq = false ∧ s.pc.toNat + 2 = 4096 ∧
      decodeWord (fetchWord s) = .ok (.ldImm 0 0x42) := by decide

theorem witness_StepReportsUnknownWord :
    let s := start 0x5121 (·.setPc 0xFFE)
    s.status = .running ∧ s.turn = .engine ∧ s.shutdownReq = false ∧ s.pc.toNat + 2 = 4096 ∧
      decodeWord (fetchWord s) = .error (.unknownWord 0x5121) := by decide

theorem witness_FetchBoundFinishesRun :
    let s := ready.setPc 0xFFF
    s.status = .running ∧ s.turn = .engine ∧ s.shutdownReq = false ∧ s.pc.toNat + 2 = 4097 := by decide

theorem witness_ShutdownStopsRun :
    let s := mid.requestShutdown
    let b := { mid with status := .blocked 15, turn := .shutdown }
    let h := { mid with turn := .shutdown }
    (s.status = .running ∧ s.turn = .engine ∧ s.shutdownReq = true) ∧
      (b.status = .blocked 15 ∧ b.turn = .shutdown) ∧ (h.status = .running ∧ h.turn = .shutdown) := by decide

theorem witness_EndedRunTakesNoStep :
    (mid.setStatus .finished).status = .finished ∧ (mid.setStatus .stopped).status = .stopped ∧
    (State.reset.setStatus .notStarted).status = .notStarted ∧
    (mid.setStatus (.fault .loadOutOfBounds 0x204 0xF165)).status = .fault .loadOutOfBounds 0x204 0xF165 := by decide

/-- A step that ends Running, one that blocks, one that faults and one that finishes. -/
theorem witness_EveryRunningStepRendersOnce :
    (∃ t, step (start 0x00E0 id) = .next t ∧ t.status = .running) ∧
    (∃ t, step (start 0xFF0A id) = .next t ∧ t.status ≠ .running) ∧
    (∃ t, step (start 0x00EE id) = .next t ∧ t.status ≠ .running) ∧
    (∃ t, step (ready.setPc 0xFFF) = .next t ∧ t.status ≠ .running) :=
  ⟨⟨_, rfl, by decide⟩, ⟨_, rfl, by decide⟩, ⟨_, rfl, by decide⟩, ⟨_, rfl, by decide⟩⟩

theorem witness_ResetMemoryHoldsFont : 80 ≤ 80 ∧ 80 ≤ 4095 := by decide

/-- The longest image and the shortest that is too long. -/
theorem witness_ImageLoadsVerbatim :
    (List.replicate 3584 (0x5A : Byte)).length ≤ 3584 ∧ 3583 < (List.replicate 3584 (0x5A : Byte)).length ∧
    511 < 512 ∧ 512 + (List.replicate 3584 (0x5A : Byte)).length ≤ 4096 ∧
    3584 < (List.replicate 3585 (0x5A : Byte)).length := by
  simp only [List.length_replicate]
  decide

theorem witness_StepKeepsInvariant : mid.Inv ∧ ∃ t, step mid = .next t := ⟨witness_inv, _, rfl⟩

theorem witness_StepAnswersWhileRunLasts : mid.Inv ∧ mid.status = .running := ⟨witness_inv, rfl⟩

theorem witness_StepAnswersWhileRunLasts_ended :
    (mid.setStatus .finished).Inv ∧ (mid.setStatus .finished).status = .finished :=
  ⟨fun _ => ⟨by decide, by decide, by decide, mid_returnAddresses, by decide, by
    intro x h; simp [State.setStatus] at h⟩, rfl⟩

/-- LD Vx, [I], which reads memory, is neither LD B nor LD [I]. -/
theorem witness_OnlyStoresChangeMemory :
    ∃ t, exec (.load 15) mid = .next t ∧ t.faulted = false ∧
      (∀ x, Instr.load 15 ≠ .ldB x) ∧ (∀ x, Instr.load 15 ≠ .store x) :=
  ⟨_, rfl, by decide, by simp, by simp⟩

theorem witness_OnlyDisplayInstructionsDraw :
    ∃ t, exec (.store 1) mid = .next t ∧ t.faulted = false ∧
      Instr.store 1 ≠ .cls ∧ (∀ x y n, Instr.store 1 ≠ .drw x y n) :=
  ⟨_, rfl, by decide, by simp, by simp⟩

theorem witness_OnlyCallAndRetMoveStack :
    (∃ t, exec (.jp 0x300) mid = .next t ∧ t.faulted = false ∧
      (∀ nnn, Instr.jp 0x300 ≠ .call nnn) ∧ Instr.jp 0x300 ≠ .ret) ∧
    (∃ t, exec (.call 0x300) { mid with sp := 15 } = .next t ∧ t.faulted = false) ∧
    (∃ t, exec .ret { mid with sp := 1 } = .next t ∧ t.faulted = false ∧ ∀ nnn, Instr.ret ≠ .call nnn) :=
  ⟨⟨_, rfl, by decide, by simp, by simp⟩, ⟨_, rfl, by decide⟩, ⟨_, rfl, by decide, by simp⟩⟩

theorem witness_OnlyIndexInstructionsWriteI :
    ∃ t, exec (.load 15) mid = .next t ∧ t.faulted = false ∧ (∀ nnn, Instr.load 15 ≠ .ldI nnn) ∧
      (∀ x, Instr.load 15 ≠ .addI x) ∧ (∀ x, Instr.load 15 ≠ .ldF x) :=
  ⟨_, rfl, by decide, by simp, by simp, by simp⟩

/-- A jump and a taken skip. -/
theorem witness_OnlyControlTransfersChangePc :
    (∃ t, exec (.jp 0xFFF) mid = .next t ∧ t.faulted = false ∧ t.pc ≠ mid.pc) ∧
    (∃ t, exec (.seImm 1 0x21) mid = .next t ∧ t.faulted = false ∧ t.pc ≠ mid.pc) :=
  ⟨⟨_, rfl, by decide, by decide⟩, ⟨_, rfl, by decide, by decide⟩⟩

theorem witness_OnlyTimerInstructionsWriteTimers :
    (∃ t, exec (.ldDtVx 2) mid = .next t ∧ t.faulted = false ∧ ∀ x, Instr.ldDtVx 2 ≠ .ldStVx x) ∧
    (∃ t, exec (.ldStVx 2) mid = .next t ∧ t.faulted = false ∧ ∀ x, Instr.ldStVx 2 ≠ .ldDtVx x) :=
  ⟨⟨_, rfl, by decide, by simp⟩, ⟨_, rfl, by decide, by simp⟩⟩

/-- ADD V1, V2 with other values in V0 and VF, and SHR V1 {, V2} with another value in the ignored V2. -/
theorem witness_RegisterReadersAndWriters :
    (∃ t, exec (.addReg 1 2) mid = .next t ∧ t.faulted = false ∧
      (∀ r ∈ readsRegs (.addReg 1 2), (regs [(0, 0x99), (vf, 0x77)] mid).v[r] = mid.v[r])) ∧
    (∃ t, exec (.shr 1 2) mid = .next t ∧ t.faulted = false ∧
      (∀ r ∈ readsRegs (.shr 1 2), (regs [(2, 0x99)] mid).v[r] = mid.v[r])) :=
  ⟨⟨_, rfl, by decide, by decide⟩, ⟨_, rfl, by decide, by decide⟩⟩

/-- Each error at the first value that raises it, and no error one step before. -/
theorem witness_ErrorsExactlyAsListed :
    (mid.faulted = false ∧ mid.sp.toNat ≤ 16) ∧
    (({ mid with sp := 16 } : State).faulted = false ∧ ({ mid with sp := 16 } : State).sp.toNat ≤ 16) ∧
    errorOf .ret { mid with sp := 0 } = some .stackUnderflow ∧ errorOf .ret { mid with sp := 1 } = none ∧
    errorOf (.call 0) { mid with sp := 16 } = some .stackOverflow ∧ errorOf (.call 0) { mid with sp := 15 } = none ∧
    errorOf (.drw 0 0 2) (mid.setI 4095) = some .spriteOutOfBounds ∧ errorOf (.drw 0 0 2) (mid.setI 4094) = none ∧
    errorOf (.drw 0 0 0) (mid.setI 4097) = some .spriteOutOfBounds ∧ errorOf (.drw 0 0 0) (mid.setI 4096) = none ∧
    errorOf (.ldB 0) (mid.setI 4094) = some .bcdOutOfBounds ∧ errorOf (.ldB 0) (mid.setI 4093) = none ∧
    errorOf (.store 15) (mid.setI 4081) = some .storeOutOfBounds ∧ errorOf (.store 15) (mid.setI 4080) = none ∧
    errorOf (.load 0) (mid.setI 4096) = some .loadOutOfBounds ∧ errorOf (.load 0) (mid.setI 4095) = none := by decide

theorem witness_FatalErrorRecordsFetchedWord :
    let s := start 0xF133 (fun _ => (mid.setI 4094).setPc 0xFFE)
    s.status = .running ∧ s.turn = .engine ∧ s.shutdownReq = false ∧ s.pc.toNat + 2 = 4096 ∧
      after (step s) State.status = some (.fault .bcdOutOfBounds 0xFFE 0xF133) := by decide

/-- Every asynchronous turn, Running and Blocked, with the highest key and register. -/
theorem witness_AsynchronousInputsHaveOnlyTheirEffects :
    let b := mid.setStatus (.blocked 15)
    (∃ t, step { mid with turn := .delayTick } = .next t) ∧ (∃ t, step { b with turn := .delayTick } = .next t) ∧
    (∃ t, step { mid with turn := .soundTick, st := 0 } = .next t) ∧
    (∃ t, step { mid with turn := .soundTick, st := 1 } = .next t) ∧
    (∃ t, step { mid with turn := .keyPress 15 } = .next t) ∧ mid.status = .running ∧
    (∃ t, step { b with turn := .keyPress 15 } = .next t) ∧ b.status = .blocked 15 ∧
    (∃ t, step { mid with turn := .shutdown } = .next t) ∧ (∃ t, step { b with turn := .shutdown } = .next t) :=
  ⟨⟨_, rfl⟩, ⟨_, rfl⟩, ⟨_, rfl⟩, ⟨_, rfl⟩, ⟨_, rfl⟩, rfl, ⟨_, rfl⟩, rfl, ⟨_, rfl⟩, ⟨_, rfl⟩⟩

/-- Stores that end at the last byte of memory: fetches of two stored bytes, of one (x = 0), and of one BCD digit. -/
theorem witness_FetchSeesEarlierStores :
    ((mid.setI 4080).i.toNat + (15 : Reg).val + 1 = 4096 ∧ (mid.setI 4095).i.toNat + (0 : Reg).val + 1 = 4096 ∧
      (mid.setI 4093).i.toNat + 3 = 4096) ∧
    (∃ t, exec (.store 15) (mid.setI 4080) = .next t ∧
      ∀ a, (t.setPc 4094).mem.read a = t.mem.read a) ∧
    (∃ t, exec (.store 0) (mid.setI 4095) = .next t ∧ ∀ a, (t.setPc 4094).mem.read a = t.mem.read a) ∧
    (∃ t, exec (.ldB 2) (mid.setI 4093) = .next t ∧ ∀ a, (t.setPc 4092).mem.read a = t.mem.read a) :=
  ⟨by decide, ⟨_, rfl, fun _ => rfl⟩, ⟨_, rfl, fun _ => rfl⟩, ⟨_, rfl, fun _ => rfl⟩⟩

/-- sp at 0, at both ends of its range, and above it. -/
theorem witness_RetPopsReturnAddress :
    ({ mid with sp := 0 } : State).sp.toNat = 0 ∧
    (0 < ({ mid with sp := 1 } : State).sp.toNat ∧ ({ mid with sp := 16 } : State).sp.toNat ≤ 16) ∧
    16 < ({ mid with sp := 17 } : State).sp.toNat := by decide

theorem witness_CallPushesReturnAddress :
    ({ mid with sp := 16 } : State).sp.toNat = 16 ∧ ({ mid with sp := 15 } : State).sp.toNat < 16 ∧
    14 ≠ ({ mid with sp := 15 } : State).sp.toNat ∧ 16 < ({ mid with sp := 17 } : State).sp.toNat := by decide

/-- The subroutine may change everything but the stack and sp. -/
theorem witness_CallThenReturnRestores :
    ({ mid with sp := 15 } : State).sp.toNat < 16 ∧
    ∃ t, exec (.call 0x300) { mid with sp := 15 } = .next t ∧
      ((regs [(0, 9)] t).setPc 0x302).stack = t.stack ∧ ((regs [(0, 9)] t).setPc 0x302).sp = t.sp :=
  ⟨by decide, _, rfl, by decide, by decide⟩

theorem witness_ImmediateSkips : mid.reg 1 = 0x21 ∧ mid.reg 1 ≠ 0x22 := by decide

theorem witness_RegisterSkips : mid.reg 3 = mid.reg 4 ∧ mid.reg 1 ≠ mid.reg 2 := by decide

/-- For the frames and results that name a register other than Vx or VF. -/
theorem witness_other_register : (1 : Reg) ≠ vf ∧ (14 : Reg) ≠ vf ∧ (2 : Reg) ≠ 1 ∧ (3 : Reg) ∉ [(1 : Reg), vf] ∧
    (15 : Reg) ∉ regsTo 14 ∧ (15 : Reg) ≤ 15 ∧ (0 : Reg) ≤ 0 := by decide

theorem witness_BcdStoresThreeDigits :
    (mid.setI 4093).i.toNat + 3 = 4096 ∧ (mid.setI 4094).i.toNat + 3 = 4097 := by decide

/-- Also for LD Vx, [I], whose hypotheses are the same. -/
theorem witness_BlockStoreWritesRegisters :
    (mid.setI 4080).i.toNat + (15 : Reg).val + 1 = 4096 ∧ (mid.setI 4081).i.toNat + (15 : Reg).val + 1 = 4097 ∧
    (mid.setI 4095).i.toNat + (0 : Reg).val + 1 = 4096 ∧ (mid.setI 0xFFFF).i.toNat + (0 : Reg).val + 1 = 65536 := by
  decide

theorem witness_ClearDarkensDisplay :
    let s := start 0x00E0 (fun _ => mid)
    63 < 64 ∧ 31 < 32 ∧ s.status = .running ∧ s.turn = .engine ∧ s.shutdownReq = false ∧ s.pc.toNat + 2 ≤ 4096 ∧
      fetchWord s = 0x00E0 := by decide

/-- Glyph 0 of the font at the lower right corner on a lit pixel; the same on a dark display; the last two bytes of
memory, and one byte beyond. -/
theorem witness_DrawXorsSpritePixels :
    let s := regs [(1, 62), (2, 31)] (State.reset.setFb (Framebuffer.clear.setPixel 63 31 true))
    s.i.toNat + (5 : Nibble).toNat ≤ 4096 ∧
    (∃ px py, px < 64 ∧ py < 32 ∧ spriteCovers s 1 2 5 px py = true ∧ Framebuffer.pixel s.fb px py = true) ∧
    (∀ px py, px < 64 → py < 32 → spriteCovers State.reset 1 2 5 px py = true →
      Framebuffer.pixel State.reset.fb px py = false) ∧
    (mid.setI 4094).i.toNat + (2 : Nibble).toNat = 4096 ∧ (mid.setI 4095).i.toNat + (2 : Nibble).toNat = 4097 :=
  ⟨by decide, ⟨63, 31, by decide⟩, fun px py _ _ _ => Framebuffer.pixel_clear px py, by decide, by decide⟩

/-- A first draw that erases a pixel, with VF as its column; then pc, VF and the events have moved on, and VF is loaded
again. -/
theorem witness_DrawTwiceRestoresDisplay :
    (mid.setI 0).i.toNat + (5 : Nibble).toNat ≤ 4096 ∧
    ∃ t, exec (.drw 15 3 5) (mid.setI 0) = .next t ∧
      let u := ((t.setReg vf 1).setPc 0x400).emit (.render t.fb)
      u.fb = t.fb ∧ u.i = (mid.setI 0).i ∧ u.reg 15 = (mid.setI 0).reg 15 ∧ u.reg 3 = (mid.setI 0).reg 3 ∧
        ∀ k, k < (5 : Nibble).toNat → u.mem.read ((mid.setI 0).i.toNat + k) = (mid.setI 0).mem.read (0 + k) :=
  ⟨by decide, _, rfl, rfl, rfl, by decide, by decide, fun _ _ => rfl⟩

/-- A next state with no fatal error, one with a fatal error, and an instruction other than LD Vx, DT. -/
theorem witness_DelayTimerIsReadSoundTimerIsNot :
    (∃ t, exec (.ldStVx 1) mid = .next t ∧ t.faulted = false ∧ ∀ x, Instr.ldStVx 1 ≠ .ldVxDt x) ∧
    (∃ t, exec .ret { mid with sp := 0 } = .next t ∧ t.faulted = true) :=
  ⟨⟨_, rfl, by decide, by simp⟩, ⟨_, rfl, by decide⟩⟩

theorem witness_KeyWaitBlocksUntilKey :
    let b := mid.setStatus (.blocked 15)
    b.status = .blocked 15 ∧ b.turn = .engine ∧ b.shutdownReq = false ∧
      ({ b with turn := .keyPress 15 } : State).turn = .keyPress 15 ∧
      ({ b with turn := .shutdown } : State).turn = .shutdown ∧ (14 : Reg) ≠ 15 := by decide

end Sys2Proof.Tests
end

section
/-! PROOFS of the family `20_memory.md`. -/

namespace Sys2Proof

/-- R50: the first byte supplies bits 15..8 and the second bits 7..0. -/
@[simp] theorem wordOfBytes_toNat (hi lo : Byte) : (wordOfBytes hi lo).toNat = hi.toNat * 256 + lo.toNat := by
  have hlo : lo.toNat < 2 ^ 8 := lo.isLt
  rw [wordOfBytes, BitVec.toNat_append, ← Nat.shiftLeft_add_eq_or_of_lt hlo, Nat.shiftLeft_eq]

end Sys2Proof

namespace Sys2Proof.Machine

/-- Settles O7: the fetched word is the word of the two bytes at pc, the first one high. -/
theorem fetchIsBigEndian : Obligations.FetchIsBigEndian := fun _ => wordOfBytes_toNat _ _

end Sys2Proof.Machine
end

section
/-! PROOFS of the family `30_encoding.md`. -/

namespace Sys2Proof

/-! ### Each field of a word as a number (R74) -/

/-- A field that ends at the word's top bit needs a quotient only: the word is below 2^16. -/
theorem opField_toNat (w : Word) : (opField w).toNat = w.toNat / 4096 := by
  have hw : w.toNat / 4096 < 2 ^ 4 := Nat.div_lt_of_lt_mul w.isLt
  rw [opField, BitVec.extractLsb'_toNat, Nat.shiftRight_eq_div_pow, Nat.mod_eq_of_lt hw]

theorem xField_val (w : Word) : (xField w).val = w.toNat / 256 % 16 := by
  rw [xField, BitVec.val_toFin, BitVec.extractLsb'_toNat, Nat.shiftRight_eq_div_pow]

theorem yField_val (w : Word) : (yField w).val = w.toNat / 16 % 16 := by
  rw [yField, BitVec.val_toFin, BitVec.extractLsb'_toNat, Nat.shiftRight_eq_div_pow]

theorem nField_toNat (w : Word) : (nField w).toNat = w.toNat % 16 := by
  rw [nField, BitVec.extractLsb'_toNat, Nat.shiftRight_zero]

theorem kkField_toNat (w : Word) : (kkField w).toNat = w.toNat % 256 := by
  rw [kkField, BitVec.extractLsb'_toNat, Nat.shiftRight_zero]

theorem nnnField_toNat (w : Word) : (nnnField w).toNat = w.toNat % 4096 := by
  rw [nnnField, BitVec.extractLsb'_toNat, Nat.shiftRight_zero]

end Sys2Proof

namespace Sys2Proof.Machine

/-- Settles O6: each of the six fields is the quotient and remainder its bit positions say. -/
theorem wordFieldsAreBitSlices : Obligations.WordFieldsAreBitSlices := fun w =>
  ⟨opField_toNat w, nnnField_toNat w, xField_val w, yField_val w, kkField_toNat w, nField_toNat w⟩

/-! ### A step on an unknown word (R80, R262) -/

theorem runWord_of_error {w : Word} {e : DecodeError} (h : decodeWord w = .error e) (s : State) :
    runWord w s = execUnknown w s := by
  rw [runWord, h]

/-- The report names the address the word was fetched from, not the advanced pc. -/
theorem execUnknown_advancePc (w : Word) (s : State) :
    execUnknown w s.advancePc = .next (s.advancePc.emit (.diag s.pc w)) := by
  rw [execUnknown, advance_back]

theorem State.renderIfRunning_of_running {s : State} (h : s.status = .running) :
    s.renderIfRunning = s.emit (.render s.fb) := if_pos h

/-- Settles O9: the step is the report, then the render, then the turn that passes; the two events are appended one by
one. -/
theorem stepReportsUnknownWord : Obligations.StepReportsUnknownWord := by
  intro s e hr ht hs hp hd
  have hstep : step s =
      .next ((s.advancePc.emit (.diag s.pc (fetchWord s))).emit (.render s.fb)).passTurn := by
    have hrender := State.renderIfRunning_of_running (s := s.advancePc.emit (.diag s.pc (fetchWord s))) hr
    rw [step_engine s hr ht hs hp, runWord_of_error hd, execUnknown_advancePc, onNext_next, onNext_next, hrender]
    rfl
  exact ⟨_, hstep, by rw [List.append_cons]; rfl⟩

end Sys2Proof.Machine
end

section
/-! PROOFS of the family `other`: the decoder and the encoder (`30_encoding.md` sections 3 to 5). -/

namespace Sys2Proof

/-! ### A word is made of its fields (R74) -/

theorem encodeXYN_fields (w : Word) : encodeXYN (opField w) (xField w) (yField w) (nField w) = w := by
  apply BitVec.eq_of_toNat_eq
  rw [encodeXYN_toNat, opField_toNat, xField_val, yField_val, nField_toNat]
  omega

theorem encodeXKk_fields (w : Word) : encodeXKk (opField w) (xField w) (kkField w) = w := by
  apply BitVec.eq_of_toNat_eq
  rw [encodeXKk_toNat, opField_toNat, xField_val, kkField_toNat]
  omega

theorem encodeNnn_fields (w : Word) : encodeNnn (opField w) (nnnField w) = w := by
  apply BitVec.eq_of_toNat_eq
  rw [encodeNnn_toNat, opField_toNat, nnnField_toNat]
  omega

theorem wordOfBytes_hiByte_loByte (w : Word) : wordOfBytes (hiByte w) (loByte w) = w := by
  apply BitVec.eq_of_toNat_eq
  rw [wordOfBytes_toNat, hiByte, loByte, BitVec.extractLsb'_toNat, BitVec.extractLsb'_toNat,
    Nat.shiftRight_eq_div_pow]
  omega

/-! ### The word of an instruction as a number: the bits its row fixes, then its operands (R77) -/

theorem encodeXYN_toNat_fixed (op : Nibble) (x y : Reg) (n : Nibble) :
    (encodeXYN op x y n).toNat = op.toNat * 4096 + n.toNat + x.val * 256 + y.val * 16 := by
  rw [encodeXYN_toNat]
  omega

theorem encodeXKk_toNat_fixed (op : Nibble) (x : Reg) (kk : Byte) :
    (encodeXKk op x kk).toNat = op.toNat * 4096 + kk.toNat + x.val * 256 := by
  rw [encodeXKk_toNat]
  omega

/-! ### Decoding an encoded instruction (R82) -/

/-- The field lemmas read each operand back out of the encoded word, and the family and sub-opcode select the row. -/
@[simp] theorem decodeWord_encode (i : Instr) : decodeWord (encode i) = .ok i := by
  cases i with
  | cls | ret => rfl
  | _ => simp [encode, decodeWord, decodeAlu, decodeKey, decodeIo]

theorem decodeBytes_encodeBytes (i : Instr) (rest : List Byte) :
    decodeBytes (encodeBytes i ++ rest) = .ok (i, rest) := by
  simp [encodeBytes, decodeBytes, wordOfBytes_hiByte_loByte]

/-! ### Encoding a decoded word (R78, R82) -/

section
variable {w : Word} {op n : Nibble} {kk : Byte} {i : Instr}

theorem encodeNnn_of_fields (hop : opField w = op) : encodeNnn op (nnnField w) = w :=
  hop ▸ encodeNnn_fields w

theorem encodeXKk_of_fields (hop : opField w = op) (hkk : kkField w = kk) : encodeXKk op (xField w) kk = w :=
  hop ▸ hkk ▸ encodeXKk_fields w

theorem encodeXYN_of_fields (hop : opField w = op) (hn : nField w = n) :
    encodeXYN op (xField w) (yField w) n = w :=
  hop ▸ hn ▸ encodeXYN_fields w

theorem encode_of_decodeAlu (hop : opField w = 0x8) (h : decodeAlu w (xField w) (yField w) = .ok i) :
    encode i = w := by
  unfold decodeAlu at h
  split at h <;> cases h <;> exact encodeXYN_of_fields hop ‹_›

theorem encode_of_decodeKey (hop : opField w = 0xE) (h : decodeKey w (xField w) = .ok i) : encode i = w := by
  unfold decodeKey at h
  split at h <;> cases h <;> exact encodeXKk_of_fields hop ‹_›

theorem encode_of_decodeIo (hop : opField w = 0xF) (h : decodeIo w (xField w) = .ok i) : encode i = w := by
  unfold decodeIo at h
  split at h <;> cases h <;> exact encodeXKk_of_fields hop ‹_›

/-- Each arm of the decoder has checked the fields its row fixes; the others are the operands. `h_k` is the arm of
family `k - 1`. -/
theorem encode_of_decodeWord (h : decodeWord w = .ok i) : encode i = w := by
  unfold decodeWord at h
  split at h
  case h_1 =>
    split at h
    · cases h; exact Eq.symm ‹_›
    · split at h <;> cases h
      exact Eq.symm ‹_›
  case h_6 | h_10 =>
    split at h <;> cases h
    exact encodeXYN_of_fields ‹_› ‹_›
  case h_9 => exact encode_of_decodeAlu ‹_› h
  case h_14 => cases h; exact encodeXYN_of_fields ‹_› rfl
  case h_15 => exact encode_of_decodeKey ‹_› h
  case h_16 =>
    have hop : opField w = 0xF := by
      generalize opField w = op at *
      revert op
      decide
    exact encode_of_decodeIo hop h
  case h_2 | h_3 | h_11 | h_12 => cases h; exact encodeNnn_of_fields ‹_›
  case h_4 | h_5 | h_7 | h_8 | h_13 => cases h; exact encodeXKk_of_fields ‹_› rfl

theorem decodeWord_eq_ok_iff : decodeWord w = .ok i ↔ encode i = w :=
  ⟨encode_of_decodeWord, fun h => h ▸ decodeWord_encode i⟩

end

/-! ### Decoding and the opcode table (R77 to R79) -/

section
variable {w : Word} {x y : Reg} {e : DecodeError}

theorem decodeAlu_error (h : decodeAlu w x y = .error e) : e = .unknownWord w := by
  unfold decodeAlu at h
  split at h <;> cases h
  rfl

theorem decodeKey_error (h : decodeKey w x = .error e) : e = .unknownWord w := by
  unfold decodeKey at h
  split at h <;> cases h
  rfl

theorem decodeIo_error (h : decodeIo w x = .error e) : e = .unknownWord w := by
  unfold decodeIo at h
  split at h <;> cases h
  rfl

/-- A word that does not decode is named in the error (R79); `h_k` is the arm of family `k - 1`. -/
theorem decodeWord_error (h : decodeWord w = .error e) : e = .unknownWord w := by
  unfold decodeWord at h
  split at h
  case h_1 =>
    split at h
    · cases h
    · split at h <;> cases h
      rfl
  case h_6 | h_10 =>
    split at h <;> cases h
    rfl
  case h_9 => exact decodeAlu_error h
  case h_15 => exact decodeKey_error h
  case h_16 => exact decodeIo_error h
  all_goals cases h

end

/-- Each instruction's word matches the row of its name. -/
theorem encodedRow_statement : ∀ i, Laws.EncodedRow.Statement i
  | .cls => Laws.EncodedRow.cls
  | .ret => Laws.EncodedRow.ret
  | .jp nnn => Laws.EncodedRow.jp nnn
  | .call nnn => Laws.EncodedRow.call nnn
  | .seImm x kk => Laws.EncodedRow.seImm x kk
  | .sneImm x kk => Laws.EncodedRow.sneImm x kk
  | .seReg x y => Laws.EncodedRow.seReg x y
  | .ldImm x kk => Laws.EncodedRow.ldImm x kk
  | .addImm x kk => Laws.EncodedRow.addImm x kk
  | .ldReg x y => Laws.EncodedRow.ldReg x y
  | .orReg x y => Laws.EncodedRow.orReg x y
  | .andReg x y => Laws.EncodedRow.andReg x y
  | .xorReg x y => Laws.EncodedRow.xorReg x y
  | .addReg x y => Laws.EncodedRow.addReg x y
  | .subReg x y => Laws.EncodedRow.subReg x y
  | .shr x y => Laws.EncodedRow.shr x y
  | .subn x y => Laws.EncodedRow.subn x y
  | .shl x y => Laws.EncodedRow.shl x y
  | .sneReg x y => Laws.EncodedRow.sneReg x y
  | .ldI nnn => Laws.EncodedRow.ldI nnn
  | .jpV0 nnn => Laws.EncodedRow.jpV0 nnn
  | .rnd x kk => Laws.EncodedRow.rnd x kk
  | .drw x y n => Laws.EncodedRow.drw x y n
  | .skp x => Laws.EncodedRow.skp x
  | .sknp x => Laws.EncodedRow.sknp x
  | .ldVxDt x => Laws.EncodedRow.ldVxDt x
  | .ldVxK x => Laws.EncodedRow.ldVxK x
  | .ldDtVx x => Laws.EncodedRow.ldDtVx x
  | .ldStVx x => Laws.EncodedRow.ldStVx x
  | .addI x => Laws.EncodedRow.addI x
  | .ldF x => Laws.EncodedRow.ldF x
  | .ldB x => Laws.EncodedRow.ldB x
  | .store x => Laws.EncodedRow.store x
  | .load x => Laws.EncodedRow.load x

/-- Two rows that share a word agree on the bits that both masks fix. -/
theorem rows_agree_of_matches {r r' : OpcodeRow} {w : Word} (h : r.Matches w) (h' : r'.Matches w) :
    r.pattern &&& r'.mask = r'.pattern &&& r.mask := by
  rw [← h, ← h', BitVec.and_assoc, BitVec.and_assoc, BitVec.and_comm r.mask]

/-- Any two different rows of the table differ in a bit that both masks fix. -/
theorem opcodeRows_differ : ∀ r ∈ opcodeRows, ∀ r' ∈ opcodeRows,
    r.pattern &&& r'.mask = r'.pattern &&& r.mask → r = r' := by decide

/-- Every word that matches the row decodes to an instruction of the row's name. -/
def OpcodeRow.Decodes (r : OpcodeRow) : Prop :=
  ∀ w, r.Matches w → ∃ i, decodeWord w = .ok i ∧ i.mnemonic = r.mnemonic

section
variable {name : String}

theorem OpcodeRow.decodes_nnn (op : Nibble) (f : Addr → Instr)
    (he : ∀ nnn, encode (f nnn) = encodeNnn op nnn := by intros; rfl)
    (hm : ∀ nnn, (f nnn).mnemonic = name := by intros; rfl) :
    OpcodeRow.Decodes ⟨name, 0xF000, encodeNnn op 0⟩ := by
  intro w (hw : w &&& 0xF000#16 = encodeNnn op 0)
  rw [← encodeNnn_fields w, and_F000_encodeNnn] at hw
  have hop : opField w = op := by simpa using congrArg opField hw
  exact ⟨f (nnnField w), decodeWord_eq_ok_iff.2 (he _ ▸ encodeNnn_of_fields hop), hm _⟩

theorem OpcodeRow.decodes_xkk (op : Nibble) (f : Reg → Byte → Instr)
    (he : ∀ x kk, encode (f x kk) = encodeXKk op x kk := by intros; rfl)
    (hm : ∀ x kk, (f x kk).mnemonic = name := by intros; rfl) :
    OpcodeRow.Decodes ⟨name, 0xF000, encodeXKk op 0 0⟩ := by
  intro w (hw : w &&& 0xF000#16 = encodeXKk op 0 0)
  rw [← encodeXKk_fields w, and_F000_encodeXKk] at hw
  have hop : opField w = op := by simpa using congrArg opField hw
  exact ⟨f (xField w) (kkField w), decodeWord_eq_ok_iff.2 (he _ _ ▸ encodeXKk_of_fields hop rfl), hm _ _⟩

theorem OpcodeRow.decodes_x (op : Nibble) (kk : Byte) (f : Reg → Instr)
    (he : ∀ x, encode (f x) = encodeXKk op x kk := by intros; rfl)
    (hm : ∀ x, (f x).mnemonic = name := by intros; rfl) :
    OpcodeRow.Decodes ⟨name, 0xF0FF, encodeXKk op 0 kk⟩ := by
  intro w (hw : w &&& 0xF0FF#16 = encodeXKk op 0 kk)
  rw [← encodeXKk_fields w, and_F0FF_encodeXKk] at hw
  have hop : opField w = op := by simpa using congrArg opField hw
  have hkk : kkField w = kk := by simpa using congrArg kkField hw
  exact ⟨f (xField w), decodeWord_eq_ok_iff.2 (he _ ▸ encodeXKk_of_fields hop hkk), hm _⟩

theorem OpcodeRow.decodes_xy (op n : Nibble) (f : Reg → Reg → Instr)
    (he : ∀ x y, encode (f x y) = encodeXYN op x y n := by intros; rfl)
    (hm : ∀ x y, (f x y).mnemonic = name := by intros; rfl) :
    OpcodeRow.Decodes ⟨name, 0xF00F, encodeXYN op 0 0 n⟩ := by
  intro w (hw : w &&& 0xF00F#16 = encodeXYN op 0 0 n)
  rw [← encodeXYN_fields w, and_F00F_encodeXYN] at hw
  have hop : opField w = op := by simpa using congrArg opField hw
  have hn : nField w = n := by simpa using congrArg nField hw
  exact ⟨f (xField w) (yField w), decodeWord_eq_ok_iff.2 (he _ _ ▸ encodeXYN_of_fields hop hn), hm _ _⟩

theorem OpcodeRow.decodes_xyn (op : Nibble) (f : Reg → Reg → Nibble → Instr)
    (he : ∀ x y n, encode (f x y n) = encodeXYN op x y n := by intros; rfl)
    (hm : ∀ x y n, (f x y n).mnemonic = name := by intros; rfl) :
    OpcodeRow.Decodes ⟨name, 0xF000, encodeXYN op 0 0 0⟩ := by
  intro w (hw : w &&& 0xF000#16 = encodeXYN op 0 0 0)
  rw [← encodeXYN_fields w, and_F000_encodeXYN] at hw
  have hop : opField w = op := by simpa using congrArg opField hw
  exact ⟨f (xField w) (yField w) (nField w),
    decodeWord_eq_ok_iff.2 (he _ _ _ ▸ encodeXYN_of_fields hop rfl), hm _ _ _⟩

theorem OpcodeRow.decodes_word (i : Instr) (hm : i.mnemonic = name := by rfl) :
    OpcodeRow.Decodes ⟨name, 0xFFFF, encode i⟩ := by
  intro w (hw : w &&& 0xFFFF = _)
  have hall : w &&& 0xFFFF#16 = w := BitVec.and_allOnes
  exact ⟨i, decodeWord_eq_ok_iff.2 (hw.symm.trans hall), hm⟩

end

open OpcodeRow in
theorem opcodeRowsPlain_decode : ∀ r ∈ opcodeRowsPlain, r.Decodes := by
  simp only [opcodeRowsPlain, List.forall_mem_cons]
  exact ⟨decodes_word .cls, decodes_word .ret, decodes_nnn 0x1 .jp, decodes_nnn 0x2 .call,
    decodes_xkk 0x3 .seImm, decodes_xkk 0x4 .sneImm, decodes_xy 0x5 0x0 .seReg, decodes_xkk 0x6 .ldImm,
    decodes_xkk 0x7 .addImm, List.forall_mem_nil _⟩

open OpcodeRow in
theorem opcodeRowsAlu_decode : ∀ r ∈ opcodeRowsAlu, r.Decodes := by
  simp only [opcodeRowsAlu, List.forall_mem_cons]
  exact ⟨decodes_xy 0x8 0x0 .ldReg, decodes_xy 0x8 0x1 .orReg, decodes_xy 0x8 0x2 .andReg,
    decodes_xy 0x8 0x3 .xorReg, decodes_xy 0x8 0x4 .addReg, decodes_xy 0x8 0x5 .subReg, decodes_xy 0x8 0x6 .shr,
    decodes_xy 0x8 0x7 .subn, decodes_xy 0x8 0xE .shl, List.forall_mem_nil _⟩

open OpcodeRow in
theorem opcodeRowsMiddle_decode : ∀ r ∈ opcodeRowsMiddle, r.Decodes := by
  simp only [opcodeRowsMiddle, List.forall_mem_cons]
  exact ⟨decodes_xy 0x9 0x0 .sneReg, decodes_nnn 0xA .ldI, decodes_nnn 0xB .jpV0, decodes_xkk 0xC .rnd,
    decodes_xyn 0xD .drw, decodes_x 0xE 0x9E .skp, decodes_x 0xE 0xA1 .sknp, List.forall_mem_nil _⟩

open OpcodeRow in
theorem opcodeRowsIo_decode : ∀ r ∈ opcodeRowsIo, r.Decodes := by
  simp only [opcodeRowsIo, List.forall_mem_cons]
  exact ⟨decodes_x 0xF 0x07 .ldVxDt, decodes_x 0xF 0x0A .ldVxK, decodes_x 0xF 0x15 .ldDtVx,
    decodes_x 0xF 0x18 .ldStVx, decodes_x 0xF 0x1E .addI, decodes_x 0xF 0x29 .ldF, decodes_x 0xF 0x33 .ldB,
    decodes_x 0xF 0x55 .store, decodes_x 0xF 0x65 .load, List.forall_mem_nil _⟩

theorem opcodeRows_decode : ∀ r ∈ opcodeRows, r.Decodes := by
  simp only [opcodeRows, List.forall_mem_append]
  exact ⟨⟨⟨opcodeRowsPlain_decode, opcodeRowsAlu_decode⟩, opcodeRowsMiddle_decode⟩, opcodeRowsIo_decode⟩

/-- A word that decodes is an encoded instruction, and every encoded instruction matches its own row. -/
theorem exists_row_of_decodeWord {w : Word} {i : Instr} (h : decodeWord w = .ok i) :
    ∃ r ∈ opcodeRows, r.mnemonic = i.mnemonic ∧ r.Matches w :=
  encode_of_decodeWord h ▸ encodedRow_statement i

end Sys2Proof

namespace Sys2Proof.Machine

/-- Settles O1: the round trip on words, and through the two bytes in fetch order. -/
theorem decodeOfEncodedInstruction : Obligations.DecodeOfEncodedInstruction :=
  fun i => ⟨decodeWord_encode i, decodeBytes_encodeBytes i⟩

/-- Settles O2, arm by arm of the decoder. -/
theorem encodeOfDecodedWord : Obligations.EncodeOfDecodedWord := fun _ _ => encode_of_decodeWord

/-- Settles O3: a word that matches no row cannot decode, since decoding would give it a row. -/
theorem decodeFollowsOpcodeTable : Obligations.DecodeFollowsOpcodeTable := by
  refine fun w => ⟨fun _ => exists_row_of_decodeWord, fun r hr => opcodeRows_decode r hr w, fun hno => ?_⟩
  cases hd : decodeWord w with
  | ok i =>
    obtain ⟨r, hr, -, hw⟩ := exists_row_of_decodeWord hd
    exact absurd hw (hno r hr)
  | error e => rw [decodeWord_error hd]

/-- Settles O4: a word of two rows would make their patterns agree where both masks look. -/
theorem noWordMatchesTwoRows : Obligations.NoWordMatchesTwoRows :=
  fun _ r hr r' hr' h h' => opcodeRows_differ r hr r' hr' (rows_agree_of_matches h h')

/-- Settles O5: the words are closed, and the decoder evaluates on them. -/
theorem specWordsDecode : Obligations.SpecWordsDecode := by
  unfold Obligations.SpecWordsDecode
  decide

end Sys2Proof.Machine
end

section
/-! PROOFS of the family `other`: what an instruction does, said once (`60_exceptions.md` section 1), and the rules
about all instructions that follow from it. -/

namespace Sys2Proof.Machine

/-! ### An instruction raises the listed error, or has its effect -/

/-- What an instruction that raises no error leaves of the state. -/
def execEffect (i : Instr) (s : State) : State :=
  match i with
  | .cls => s.setFb Framebuffer.clear
  | .ret => s.popPc
  | .jp nnn => s.setPc (addrOperand nnn)
  | .call nnn => (s.push s.pc).setPc (addrOperand nnn)
  | .seImm x kk => s.skipIf (s.reg x == kk)
  | .sneImm x kk => s.skipIf (s.reg x != kk)
  | .seReg x y => s.skipIf (s.reg x == s.reg y)
  | .ldImm x kk => s.setReg x kk
  | .addImm x kk => s.setReg x (s.reg x + kk)
  | .ldReg x y => s.setReg x (s.reg y)
  | .orReg x y => s.setReg x (s.reg x ||| s.reg y)
  | .andReg x y => s.setReg x (s.reg x &&& s.reg y)
  | .xorReg x y => s.setReg x (s.reg x ^^^ s.reg y)
  | .addReg x y => s.setRegFlag x (s.reg x + s.reg y) (carryFlag (s.reg x) (s.reg y))
  | .subReg x y => s.setRegFlag x (s.reg x - s.reg y) (greaterFlag (s.reg x) (s.reg y))
  | .shr x _ => s.setRegFlag x (s.reg x >>> 1) (shrFlag (s.reg x))
  | .subn x y => s.setRegFlag x (s.reg y - s.reg x) (greaterFlag (s.reg y) (s.reg x))
  | .shl x _ => s.setRegFlag x (s.reg x <<< 1) (shlFlag (s.reg x))
  | .sneReg x y => s.skipIf (s.reg x != s.reg y)
  | .ldI nnn => s.setI (addrOperand nnn)
  | .jpV0 nnn => s.setPc (s.regOperand 0 + addrOperand nnn)
  | .rnd x kk => (s.setReg x (Config.randomByte s.draws &&& kk)).nextDraw
  | .drw x y n =>
    let drawn := drawSprite s.mem s.i.toNat (s.reg x).toNat (s.reg y).toNat n.toNat s.fb
    (s.setReg vf (collisionFlag drawn.2)).setFb drawn.1
  | .skp x => (s.skipIf (Config.keyPressed s.draws (s.reg x))).nextDraw
  | .sknp x => (s.skipIf (!Config.keyPressed s.draws (s.reg x))).nextDraw
  | .ldVxDt x => s.setReg x s.dt
  | .ldVxK x => s.setStatus (.blocked x)
  | .ldDtVx x => s.setDelay (s.reg x)
  | .ldStVx x => s.setSound (s.reg x)
  | .addI x => s.setI (s.i + s.regOperand x)
  | .ldF x => s.setI (glyphAddress (s.reg x))
  | .ldB x => s.setMem (s.mem.writeBytes s.i.toNat (bcdDigits (s.reg x)))
  | .store x => s.setMem (s.mem.writeBytes s.i.toNat (s.regsUpTo x))
  | .load x => s.loadUpTo s.i.toNat x

/-- CALL and RET, the instructions that use the stack (R109). -/
def usesStack : Instr → Bool
  | .call _ | .ret => true
  | _ => false

/-- The sp of the state is one the instruction can run with (log 40). -/
def StackOk (i : Instr) (s : State) : Prop := usesStack i = true → s.sp.toNat ≤ 16

theorem usesStack_eq_false {i : Instr} (hcall : ∀ nnn, i ≠ .call nnn) (hret : i ≠ .ret) : usesStack i = false := by
  cases i with
  | call nnn => exact absurd rfl (hcall nnn)
  | ret => exact absurd rfl hret
  | _ => rfl

theorem stackOk_of_not_usesStack {i : Instr} (h : usesStack i = false) (s : State) : StackOk i s := by
  simp [StackOk, h]

section
variable {i : Instr} {s : State} {kind : FatalKind}

theorem exec_of_error (h : errorOf i s = some kind) : exec i s = .next (s.fatal kind (encode i)) := by
  cases i with
  | ret =>
    obtain ⟨hsp, rfl⟩ : s.sp.toNat = 0 ∧ .stackUnderflow = kind := by simpa [errorOf] using h
    exact if_pos (BitVec.eq_of_toNat_eq hsp)
  | call nnn =>
    obtain ⟨hsp, rfl⟩ : s.sp.toNat = 16 ∧ .stackOverflow = kind := by simpa [errorOf] using h
    exact if_pos (BitVec.eq_of_toNat_eq hsp)
  | drw | ldB | store | load =>
    simp only [errorOf, gt_iff_lt, Option.ite_none_right_eq_some, Option.some.injEq] at h
    obtain ⟨hi, rfl⟩ := h
    exact if_neg (mt (fits_iff _ _).1 (Nat.not_le.2 hi))
  | _ => cases h

theorem exec_of_no_error (h : errorOf i s = none) (hs : StackOk i s) : exec i s = .next (execEffect i s) := by
  cases i with
  | ret =>
    have hsp : s.sp.toNat ≠ 0 := by simpa [errorOf] using h
    exact (if_neg (mt (congrArg BitVec.toNat) hsp)).trans (if_pos (hs rfl))
  | call nnn =>
    have hsp : s.sp.toNat ≠ 16 := by simpa [errorOf] using h
    have hlt : s.sp.toNat < 16 := lt_of_le_of_ne (hs rfl) hsp
    exact (if_neg (mt (congrArg BitVec.toNat) hsp)).trans (if_pos hlt)
  | drw | ldB | store | load =>
    simp only [errorOf, gt_iff_lt, ite_eq_right_iff, reduceCtorEq, imp_false] at h
    exact if_pos ((fits_iff _ _).2 (Nat.not_lt.1 h))
  | _ => rfl

theorem exec_of_sp_above (hu : usesStack i = true) (hs : 16 < s.sp.toNat) :
    exec i s = .fault (.stackPointerRange s.sp) := by
  have hne (b : Byte) (hb : b.toNat ≤ 16) : s.sp ≠ b := fun h => absurd hs (Nat.not_lt.2 (h ▸ hb))
  cases i with
  | ret => exact (if_neg (hne 0 (by decide))).trans (if_neg (Nat.not_le.2 hs))
  | call nnn => exact (if_neg (hne 16 (by decide))).trans (if_neg (Nat.not_lt.2 (Nat.le_of_lt hs)))
  | _ => cases hu

end

/-- All that an instruction can answer with a next state: the listed fatal error (R261), or its effect. -/
theorem exec_eq_next {i : Instr} {s t : State} (h : exec i s = .next t) :
    (∃ kind, errorOf i s = some kind ∧ t = s.fatal kind (encode i)) ∨
      (errorOf i s = none ∧ StackOk i s ∧ t = execEffect i s) := by
  cases he : errorOf i s with
  | some kind =>
    rw [exec_of_error he] at h
    cases h
    exact .inl ⟨kind, rfl, rfl⟩
  | none =>
    have hs : StackOk i s := fun hu => by
      by_contra hsp
      rw [exec_of_sp_above hu (by omega)] at h
      cases h
    rw [exec_of_no_error he hs] at h
    cases h
    exact .inr ⟨rfl, hs, rfl⟩

/-- An instruction that raises no error completes. -/
theorem exec_completes {i : Instr} {s t : State} (h : exec i s = .next t) (hf : t.faulted = false) :
    errorOf i s = none ∧ StackOk i s ∧ t = execEffect i s := by
  obtain ⟨kind, -, rfl⟩ | hc := exec_eq_next h
  · cases hf
  · exact hc

theorem fatalEntry_fatal (s : State) (kind : FatalKind) (w : Word) : FatalEntry kind w s (s.fatal kind w) := ⟨rfl, rfl⟩

theorem exists_fatalEntry {i : Instr} {s : State} {kind : FatalKind} (h : errorOf i s = some kind) :
    ∃ t, exec i s = .next t ∧ FatalEntry kind (encode i) s t :=
  ⟨_, exec_of_error h, fatalEntry_fatal _ _ _⟩

/-! ### What the effect leaves unchanged

LD Vx, [I] is cited by its laws: that unfolding leaves the other fields alone is slow to see, for the registers it
loads would be compared with the old ones first. -/

section
variable (i : Instr) (s : State)

@[simp] theorem execEffect_out : (execEffect i s).out = s.out := by
  cases i with
  | load x => exact State.loadUpTo_out s _ x
  | _ => rfl

@[simp] theorem execEffect_shutdownReq : (execEffect i s).shutdownReq = s.shutdownReq := by
  cases i with
  | load x => exact State.loadUpTo_shutdownReq s _ x
  | _ => rfl

@[simp] theorem execEffect_turn : (execEffect i s).turn = s.turn := by
  cases i with
  | load x => exact State.loadUpTo_turn s _ x
  | _ => rfl

@[simp] theorem execEffect_moves : (execEffect i s).moves = s.moves := by
  cases i with
  | load x => exact State.loadUpTo_moves s _ x
  | _ => rfl

/-- Only LD Vx, K changes the status (R234). -/
theorem execEffect_status : (execEffect i s).status = s.status ∨ ∃ x, (execEffect i s).status = .blocked x := by
  cases i with
  | ldVxK x => exact .inr ⟨x, rfl⟩
  | load x => exact .inl (State.loadUpTo_status s _ x)
  | _ => exact .inl rfl

theorem execEffect_faulted (h : s.faulted = false) : (execEffect i s).faulted = false := by
  rcases execEffect_status i s with hs | ⟨x, hs⟩
  · rw [State.faulted, hs]
    exact h
  · rw [State.faulted, hs]

variable {i}

theorem execEffect_mem (hB : ∀ x, i ≠ .ldB x) (hS : ∀ x, i ≠ .store x) : (execEffect i s).mem = s.mem := by
  cases i with
  | ldB x => exact absurd rfl (hB x)
  | store x => exact absurd rfl (hS x)
  | load x => exact State.loadUpTo_mem s _ x
  | _ => rfl

theorem execEffect_fb (hC : i ≠ .cls) (hD : ∀ x y n, i ≠ .drw x y n) : (execEffect i s).fb = s.fb := by
  cases i with
  | cls => exact absurd rfl hC
  | drw x y n => exact absurd rfl (hD x y n)
  | load x => exact State.loadUpTo_fb s _ x
  | _ => rfl

theorem execEffect_i (hI : ∀ nnn, i ≠ .ldI nnn) (hA : ∀ x, i ≠ .addI x) (hF : ∀ x, i ≠ .ldF x) :
    (execEffect i s).i = s.i := by
  cases i with
  | ldI nnn => exact absurd rfl (hI nnn)
  | addI x => exact absurd rfl (hA x)
  | ldF x => exact absurd rfl (hF x)
  | load x => exact State.loadUpTo_i s _ x
  | _ => rfl

theorem execEffect_dt (h : ∀ x, i ≠ .ldDtVx x) : (execEffect i s).dt = s.dt := by
  cases i with
  | ldDtVx x => exact absurd rfl (h x)
  | load x => exact State.loadUpTo_dt s _ x
  | _ => rfl

theorem execEffect_st (h : ∀ x, i ≠ .ldStVx x) : (execEffect i s).st = s.st := by
  cases i with
  | ldStVx x => exact absurd rfl (h x)
  | load x => exact State.loadUpTo_st s _ x
  | _ => rfl

theorem execEffect_sp (h : usesStack i = false) : (execEffect i s).sp = s.sp := by
  cases i with
  | call | ret => cases h
  | load x => exact State.loadUpTo_sp s _ x
  | _ => rfl

theorem execEffect_stack (h : ∀ nnn, i ≠ .call nnn) : (execEffect i s).stack = s.stack := by
  cases i with
  | call nnn => exact absurd rfl (h nnn)
  | load x => exact State.loadUpTo_stack s _ x
  | _ => rfl

end

/-! ### Who writes what (R20, R24, R28, R29, R35, R53) -/

/-- Settles O21, by the frame of the effect. -/
theorem onlyStoresChangeMemory : Obligations.OnlyStoresChangeMemory := by
  intro i s t h hf hB hS a
  obtain ⟨-, -, rfl⟩ := exec_completes h hf
  rw [execEffect_mem s hB hS]

/-- Settles O22, by the frame of the effect. -/
theorem onlyDisplayInstructionsDraw : Obligations.OnlyDisplayInstructionsDraw := by
  intro i s t h hf hC hD
  obtain ⟨-, -, rfl⟩ := exec_completes h hf
  exact execEffect_fb s hC hD

/-- Settles O24, by the frame of the effect. -/
theorem onlyIndexInstructionsWriteI : Obligations.OnlyIndexInstructionsWriteI := by
  intro i s t h hf hI hA hF
  obtain ⟨-, -, rfl⟩ := exec_completes h hf
  exact execEffect_i s hI hA hF

/-- Settles O26, by the frames of the effect. -/
theorem onlyTimerInstructionsWriteTimers : Obligations.OnlyTimerInstructionsWriteTimers := by
  intro i s t h hf
  obtain ⟨-, -, rfl⟩ := exec_completes h hf
  exact ⟨execEffect_dt s, execEffect_st s, execEffect_shutdownReq i s, execEffect_turn i s, execEffect_moves i s⟩

/-- A skip that changes pc was taken (R100). -/
theorem State.skipIf_pc_of_ne {s : State} {c : Bool} (h : (s.skipIf c).pc ≠ s.pc) : (s.skipIf c).pc = s.pc + 2 := by
  cases c with
  | true => rfl
  | false => exact absurd rfl h

/-- Settles O25: of the other instructions' effects none touches pc. -/
theorem onlyControlTransfersChangePc : Obligations.OnlyControlTransfersChangePc := by
  intro i s t h hf hpc
  obtain ⟨-, -, rfl⟩ := exec_completes h hf
  cases i with
  | ret | jp | call | jpV0 => simp
  | seImm | sneImm | seReg | sneReg | skp | sknp =>
    have htaken := State.skipIf_pc_of_ne hpc
    refine .inr (.inr (.inr (.inr ⟨?_, htaken⟩)))
    simp
  | load x => exact absurd (State.loadUpTo_pc s _ x) hpc
  | _ => exact absurd rfl hpc

/-! ### The stack (R26, R27, R109) -/

theorem errorOf_withStack {i : Instr} (h : usesStack i = false) (s : State) (stack : Vector Word 16) (sp : Byte) :
    errorOf i { s with stack := stack, sp := sp } = errorOf i s := by
  cases i with
  | call | ret => cases h
  | _ => rfl

theorem execEffect_withStack {i : Instr} (h : usesStack i = false) (s : State) (stack : Vector Word 16) (sp : Byte) :
    execEffect i { s with stack := stack, sp := sp } = { execEffect i s with stack := stack, sp := sp } := by
  cases i with
  | call | ret => cases h
  | _ => rfl

theorem exec_withStack {i : Instr} {s : State} (h : usesStack i = false) (he : errorOf i s = none)
    (stack : Vector Word 16) (sp : Byte) :
    exec i { s with stack := stack, sp := sp } = .next { execEffect i s with stack := stack, sp := sp } := by
  rw [exec_of_no_error ((errorOf_withStack h s stack sp).trans he) (stackOk_of_not_usesStack h _),
    execEffect_withStack h]

theorem State.stackEntry_eq (s : State) (j : Byte) : s.stackEntry j = (s.stack[j.toNat]?).getD 0 := by
  rw [State.stackEntry, Vector.getD, Array.getD_eq_getD_getElem?, Vector.getElem?_toArray]

theorem State.push_sp_toNat {s : State} (h : s.sp.toNat < 16) (a : Word) : (s.push a).sp.toNat = s.sp.toNat + 1 := by
  rw [State.push_sp]
  bv_omega

theorem State.popPc_sp_toNat {s : State} (h : s.sp.toNat ≠ 0) : s.popPc.sp.toNat = s.sp.toNat - 1 := by
  rw [State.popPc_sp]
  bv_omega

theorem sp_lt_of_call_no_error {s : State} {nnn : Addr} (he : errorOf (.call nnn) s = none)
    (hs : StackOk (.call nnn) s) : s.sp.toNat < 16 :=
  lt_of_le_of_ne (hs rfl) (by simpa [errorOf] using he)

theorem sp_ne_zero_of_ret_no_error {s : State} (he : errorOf .ret s = none) : s.sp.toNat ≠ 0 := by
  simpa [errorOf] using he

/-- Settles O23: only the errors and effects of CALL and RET look at the stack. -/
theorem onlyCallAndRetMoveStack : Obligations.OnlyCallAndRetMoveStack := by
  intro i s t h hf
  obtain ⟨he, hs, rfl⟩ := exec_completes h hf
  refine ⟨fun hcall hret => execEffect_sp s (usesStack_eq_false hcall hret), execEffect_stack s, ?_, ?_,
    fun hcall hret => exec_withStack (usesStack_eq_false hcall hret) he⟩
  · rintro ⟨nnn, rfl⟩
    exact State.push_sp_toNat (sp_lt_of_call_no_error he hs) s.pc
  · rintro rfl
    have hsp := sp_ne_zero_of_ret_no_error he
    have hpop : (execEffect .ret s).sp.toNat = s.sp.toNat - 1 := State.popPc_sp_toNat hsp
    omega

/-! ### Errors (R260, R261, R264) -/

/-- Settles O28, by the two cases an instruction has. -/
theorem errorsExactlyAsListed : Obligations.ErrorsExactlyAsListed := by
  intro i s hf hsp
  cases he : errorOf i s with
  | some kind =>
    refine ⟨_, exec_of_error he, fun kind' hk => ?_, nofun⟩
    cases hk
    exact fatalEntry_fatal _ _ _
  | none => exact ⟨_, exec_of_no_error he fun _ => hsp, nofun, fun _ => execEffect_faulted i s hf⟩

end Sys2Proof.Machine
end

section
/-! PROOFS of the family `other`: the frames of the updates, and on what an instruction's effect depends
(`10_state.md` sections 2 and 5). -/

namespace Sys2Proof.Machine

/-! ### Registers written (R22, R23) -/

@[simp] theorem mem_regsTo {x r : Reg} : r ∈ regsTo x ↔ r ≤ x := by simp [regsTo]

/-- VF and the destination are the only registers a result with a flag changes. -/
theorem State.setRegFlag_reg_ne {s : State} {x r : Reg} (b f : Byte) (h : r ∉ [x, vf]) :
    (s.setRegFlag x b f).reg r = s.reg r := by
  obtain ⟨hx, hvf⟩ : r ≠ x ∧ r ≠ vf := by simpa using h
  rw [State.setRegFlag_reg, if_neg hvf, if_neg hx]

theorem execEffect_reg_of_not_mem {i : Instr} (s : State) {r : Reg} (h : r ∉ writesRegs i) :
    (execEffect i s).reg r = s.reg r := by
  cases i with
  | ldImm | addImm | ldReg | orReg | andReg | xorReg | ldVxDt | drw | rnd =>
    exact State.setReg_reg_ne _ _ _ _ (List.ne_of_not_mem_cons h)
  | addReg | subReg | subn | shr | shl => exact State.setRegFlag_reg_ne _ _ h
  | load x => exact (State.loadUpTo_reg _ _ _ _).trans (if_neg (mt mem_regsTo.2 h))
  | _ => rfl

/-! ### Frames of the updates -/

section
variable (s : State)

theorem State.onlyPc_setPc (a : Word) : OnlyPc s (s.setPc a) := ⟨rfl, fun _ => rfl⟩

theorem State.onlyPc_skipIf (c : Bool) : OnlyPc s (s.skipIf c) := ⟨rfl, fun _ => rfl⟩

theorem State.onlyIndex_setI (a : Word) : OnlyIndex s (s.setI a) := ⟨rfl, fun _ => rfl⟩

theorem State.onlyRegs_setReg (x : Reg) (b : Byte) : OnlyRegs [x] s (s.setReg x b) :=
  ⟨rfl, fun _ hr => State.setReg_reg_ne s x _ b (List.ne_of_not_mem_cons hr), fun _ => rfl⟩

theorem State.onlyRegs_setRegFlag (x : Reg) (b f : Byte) : OnlyRegs [x, vf] s (s.setRegFlag x b f) :=
  ⟨rfl, fun _ hr => State.setRegFlag_reg_ne b f hr, fun _ => rfl⟩

theorem State.onlyRegs_loadUpTo (a : Nat) (x : Reg) : OnlyRegs (regsTo x) s (s.loadUpTo a x) :=
  ⟨rfl, fun _ hr => (State.loadUpTo_reg s a x _).trans (if_neg (mt mem_regsTo.2 hr)),
    fun _ => by rw [State.loadUpTo_mem]⟩

theorem State.onlyBytes_writeBytes (a : Nat) (bs : List Byte) :
    OnlyBytes a bs.length s (s.setMem (s.mem.writeBytes a bs)) :=
  ⟨rfl, fun _ ha => Memory.read_writeBytes_outside bs s.mem a _ ha⟩

theorem State.skipIf_pc_of_true {c : Bool} (h : c = true) : (s.skipIf c).pc = s.pc + 2 := if_pos h

theorem State.skipIf_pc_of_false {c : Bool} (h : c = false) : (s.skipIf c).pc = s.pc := if_neg (by simp [h])

/-- An instruction that skips on `c`, in the words of the condition `p` and its opposite `q` (R100). -/
theorem exists_skip {i : Instr} {c : Bool} {p q : Prop} (h : exec i s = .next (s.skipIf c)) (hp : p → c = true)
    (hq : q → c = false) :
    ∃ t, exec i s = .next t ∧ OnlyPc s t ∧ (p → t.pc = s.pc + 2) ∧ (q → t.pc = s.pc) :=
  ⟨_, h, State.onlyPc_skipIf s c, fun hskip => State.skipIf_pc_of_true s (hp hskip),
    fun hstay => State.skipIf_pc_of_false s (hq hstay)⟩

@[simp] theorem State.setRegFlag_reg_vf (x : Reg) (b f : Byte) : (s.setRegFlag x b f).reg vf = f := by
  rw [State.setRegFlag_reg, if_pos rfl]

theorem State.setRegFlag_reg_same {x : Reg} (b f : Byte) (h : x ≠ vf) : (s.setRegFlag x b f).reg x = b := by
  rw [State.setRegFlag_reg, if_neg h, if_pos rfl]

end

/-! ### Registers read (R23) -/

/-- A register just written does not depend on the other registers. -/
theorem State.setReg_reg_of_mem {s s' : State} {x r : Reg} {b b' : Byte} (hr : r ∈ [x]) (hb : b' = b) :
    (s'.setReg x b').reg r = (s.setReg x b).reg r := by
  obtain rfl := List.mem_singleton.1 hr
  rw [State.setReg_reg_same, State.setReg_reg_same, hb]

theorem State.setRegFlag_reg_of_mem {s s' : State} {x r : Reg} {b b' f f' : Byte} (hr : r ∈ [x, vf]) (hb : b' = b)
    (hf : f' = f) : (s'.setRegFlag x b' f').reg r = (s.setRegFlag x b f).reg r := by
  rw [State.setRegFlag_reg, State.setRegFlag_reg, hb, hf]
  by_cases hvf : r = vf
  · rw [if_pos hvf, if_pos hvf]
  · have hx : r = x := by simpa [hvf] using hr
    rw [if_pos hx, if_pos hx]

theorem State.regsUpTo_congr {s s' : State} {x : Reg} (h : ∀ r ≤ x, s'.reg r = s.reg r) :
    s'.regsUpTo x = s.regsUpTo x := by
  refine List.ext_getElem (by simp [State.regsUpTo]) fun k hk _ => ?_
  have hkx : k < x.val + 1 := by simp [State.regsUpTo] at hk; omega
  simpa [State.regsUpTo, State.reg] using h ⟨k, by omega⟩ (Nat.lt_succ_iff.1 hkx)

theorem errorOf_withRegs (i : Instr) (s : State) (v : Vector Byte 16) : errorOf i { s with v := v } = errorOf i s := by
  cases i <;> rfl

section
variable {i : Instr} {s : State} {v : Vector Byte 16}
  (h : ∀ r ∈ readsRegs i, ({ s with v := v } : State).reg r = s.reg r)
include h

/-- Outside the registers the effect depends on the registers read only. -/
theorem execEffect_withRegs :
    execEffect i { s with v := v } = { execEffect i s with v := (execEffect i { s with v := v }).v } := by
  cases i with
  | seImm x | sneImm x | jpV0 x | skp x | sknp x | ldDtVx x | ldStVx x | addI x | ldF x | ldB x =>
    have hx := h _ List.mem_cons_self
    simp only [execEffect, State.regOperand, hx]
    rfl
  | seReg x y | sneReg x y | drw x y =>
    have hx := h x (by simp [readsRegs])
    have hy := h y (by simp [readsRegs])
    simp only [execEffect, hx, hy]
    rfl
  | store x =>
    have hregs := State.regsUpTo_congr fun r hr => h r (mem_regsTo.2 hr)
    simp only [execEffect, hregs]
    rfl
  | _ => rfl

/-- A register written gets a value that depends on the registers read only. -/
theorem execEffect_reg_withRegs {r : Reg} (hr : r ∈ writesRegs i) :
    (execEffect i { s with v := v }).reg r = (execEffect i s).reg r := by
  cases i with
  | ldImm | rnd | ldVxDt => exact State.setReg_reg_of_mem hr rfl
  | addImm x => exact State.setReg_reg_of_mem hr (by rw [h x List.mem_cons_self])
  | ldReg x y => exact State.setReg_reg_of_mem hr (h y List.mem_cons_self)
  | orReg x y | andReg x y | xorReg x y =>
    have hx := h x (by simp [readsRegs])
    have hy := h y (by simp [readsRegs])
    exact State.setReg_reg_of_mem hr (by rw [hx, hy])
  | addReg x y | subReg x y | subn x y =>
    have hx := h x (by simp [readsRegs])
    have hy := h y (by simp [readsRegs])
    exact State.setRegFlag_reg_of_mem hr (by rw [hx, hy]) (by rw [hx, hy])
  | shr x y | shl x y =>
    have hx := h x List.mem_cons_self
    exact State.setRegFlag_reg_of_mem hr (by rw [hx]) (by rw [hx])
  | drw x y n =>
    have hx := h x (by simp [readsRegs])
    have hy := h y (by simp [readsRegs])
    exact State.setReg_reg_of_mem hr (by rw [hx, hy])
  | load x =>
    have hrx : r ≤ x := mem_regsTo.1 hr
    simp [execEffect, State.loadUpTo_reg, hrx]
  | _ => cases hr

end

/-- Settles O27: the errors read no register, and the effect reads those listed. -/
theorem registerReadersAndWriters : Obligations.RegisterReadersAndWriters := by
  intro i s t v' h hf hv
  obtain ⟨he, hs, rfl⟩ := exec_completes h hf
  have hexec : exec i { s with v := v' } = .next (execEffect i { s with v := v' }) :=
    exec_of_no_error ((errorOf_withRegs i s v').trans he) hs
  exact ⟨fun r => execEffect_reg_of_not_mem s, _, hexec, execEffect_withRegs hv,
    fun r => execEffect_reg_withRegs hv, fun r => execEffect_reg_of_not_mem _⟩

/-! ### Timers read (R29, R233) -/

section
variable (i : Instr) (s : State) (b : Byte)

theorem errorOf_withSound : errorOf i { s with st := b } = errorOf i s := by cases i <;> rfl

theorem errorOf_withDelay : errorOf i { s with dt := b } = errorOf i s := by cases i <;> rfl

theorem execEffect_withSound :
    execEffect i { s with st := b } = { execEffect i s with st := (execEffect i { s with st := b }).st } := by
  cases i <;> rfl

variable {i}

theorem execEffect_withDelay (h : ∀ x, i ≠ .ldVxDt x) :
    execEffect i { s with dt := b } = { execEffect i s with dt := (execEffect i { s with dt := b }).dt } := by
  cases i with
  | ldVxDt x => exact absurd rfl (h x)
  | _ => rfl

end

/-- If an instruction meets the same error in two states, and its effects there agree in status and are related by
`P`, then so are the two answers; of a fatal error only status and events are compared (log 34). -/
theorem exec_agree {i : Instr} {s s' t : State} {P : State → State → Prop} (h : exec i s = .next t)
    (he : errorOf i s' = errorOf i s) (hsp : s'.sp = s.sp) (hpc : s'.pc = s.pc) (hout : s'.out = s.out)
    (hstatus : (execEffect i s').status = (execEffect i s).status) (hP : P (execEffect i s) (execEffect i s')) :
    ∃ t', exec i s' = .next t' ∧ t'.status = t.status ∧ t'.out = t.out ∧ (t.faulted = false → P t t') := by
  obtain ⟨kind, hk, rfl⟩ | ⟨hn, hs, rfl⟩ := exec_eq_next h
  · exact ⟨_, exec_of_error (he.trans hk), by simp [State.fatal_eq, hpc], by simp [State.fatal_eq, hpc, hout], nofun⟩
  · have hs' : StackOk i s' := by rwa [StackOk, hsp]
    exact ⟨_, exec_of_no_error (he.trans hn) hs', hstatus, by simp [hout], fun _ => hP⟩

/-- LD Vx, DT writes the delay timer into Vx (R233). -/
theorem exec_ldVxDt (x : Reg) (s : State) :
    ∃ t, exec (.ldVxDt x) s = .next t ∧ OnlyRegs [x] s t ∧ t.reg x = s.dt :=
  ⟨_, rfl, State.onlyRegs_setReg s x s.dt, State.setReg_reg_same s x s.dt⟩

/-- Settles O56: neither errors nor effects read a timer, but for LD Vx, DT. -/
theorem delayTimerIsReadSoundTimerIsNot : Obligations.DelayTimerIsReadSoundTimerIsNot := by
  refine ⟨fun x s => ⟨encodeXKk_toNat_fixed 0xF x 0x07, exec_ldVxDt x s⟩, fun i s t b h => ?_, fun i s t b h hi => ?_⟩
  · have heffect := execEffect_withSound i s b
    exact exec_agree (P := fun t t' => t' = { t with st := t'.st }) h (errorOf_withSound i s b) rfl rfl rfl
      (by rw [heffect]) heffect
  · have heffect := execEffect_withDelay s b hi
    exact exec_agree (P := fun t t' => t' = { t with dt := t'.dt }) h (errorOf_withDelay i s b) rfl rfl rfl
      (by rw [heffect]) heffect

end Sys2Proof.Machine
end

section
/-! PROOFS of the family `other`: the step, its events, and the actions of the other agents (`30_encoding.md`
section 1, `44_keys_timers.md` section 2, `60_exceptions.md` sections 1 to 7). -/

namespace Sys2Proof.Machine

/-! ### The actions, case by case -/

theorem runEnded_eq_none {r : Status} : runEnded r = none ↔ r = .running ∨ ∃ x, r = .blocked x := by
  cases r <;> simp [runEnded]

/-- While the run lasts a step is the action of the agent whose turn it is, and the turn passes. -/
theorem step_of_action {s u : State} (hrun : runEnded s.status = none) (h : actionOf s.turn s = .next u) :
    step s = .next u.passTurn :=
  (step_eq_next s _).2 ⟨hrun, u, h, rfl⟩

section
variable {s : State}

theorem runEnded_of_running (h : s.status = .running) : runEnded s.status = none := h ▸ rfl

theorem runEnded_of_blocked {x : Reg} (h : s.status = .blocked x) : runEnded s.status = none := h ▸ rfl

theorem State.isBlocked_of_running (h : s.status = .running) : s.isBlocked = false := by rw [State.isBlocked, h]

theorem State.isBlocked_of_blocked {x : Reg} (h : s.status = .blocked x) : s.isBlocked = true := by
  rw [State.isBlocked, h]

theorem engineStep_of_shutdownReq (h : s.shutdownReq = true) : engineStep s = .next s.stop := if_pos h

theorem engineStep_of_blocked (hq : s.shutdownReq = false) (hb : s.isBlocked = true) : engineStep s = .next s := by
  simp [engineStep, hq, hb]

theorem engineStep_of_fetchBound (hq : s.shutdownReq = false) (hb : s.isBlocked = false)
    (hpc : 4096 < s.pc.toNat + 2) : engineStep s = .next (s.endRun .finished .finished) := by
  simp [engineStep, hq, hb, hpc]

theorem engineStep_of_fetch (hq : s.shutdownReq = false) (hb : s.isBlocked = false) (hpc : s.pc.toNat + 2 ≤ 4096) :
    engineStep s = onNext State.renderIfRunning (runWord (fetchWord s) s.advancePc) := by
  simp [engineStep, hq, hb, Nat.not_lt.2 hpc]

/-- All that an engine step can be: the shutdown, the wait for a key, the end of the run, or a fetched word. -/
theorem engineStep_eq_next {u : State} (h : engineStep s = .next u) :
    (s.shutdownReq = true ∧ u = s.stop) ∨
    (s.isBlocked = true ∧ u = s) ∨
    (s.isBlocked = false ∧ u = s.endRun .finished .finished) ∨
    (s.shutdownReq = false ∧ s.isBlocked = false ∧ s.pc.toNat + 2 ≤ 4096 ∧
      ∃ x, runWord (fetchWord s) s.advancePc = .next x ∧ u = x.renderIfRunning) := by
  cases hq : s.shutdownReq with
  | true =>
    rw [engineStep_of_shutdownReq hq] at h
    cases h
    exact .inl ⟨rfl, rfl⟩
  | false =>
    cases hb : s.isBlocked with
    | true =>
      rw [engineStep_of_blocked hq hb] at h
      cases h
      exact .inr (.inl ⟨rfl, rfl⟩)
    | false =>
      rcases Nat.lt_or_ge 4096 (s.pc.toNat + 2) with hpc | hpc
      · rw [engineStep_of_fetchBound hq hb hpc] at h
        cases h
        exact .inr (.inr (.inl ⟨rfl, rfl⟩))
      · rw [engineStep_of_fetch hq hb hpc, onNext_eq_next] at h
        exact .inr (.inr (.inr ⟨rfl, rfl, hpc, h⟩))

theorem runWord_of_ok {w : Word} {i : Instr} (h : decodeWord w = .ok i) (s : State) : runWord w s = exec i s := by
  rw [runWord, h]

/-- A fetched word is reported as unknown, or it is the word of an instruction, which is executed. -/
theorem runWord_eq_next {w : Word} {t : State} (h : runWord w s = .next t) :
    t = s.emit (.diag (s.pc - 2) w) ∨ ∃ i, encode i = w ∧ exec i s = .next t := by
  cases hd : decodeWord w with
  | ok i =>
    rw [runWord_of_ok hd] at h
    exact .inr ⟨i, encode_of_decodeWord hd, h⟩
  | error e =>
    rw [runWord_of_error hd] at h
    cases h
    exact .inl rfl

theorem State.renderIfRunning_of_ne (h : s.status ≠ .running) : s.renderIfRunning = s := if_neg h

theorem State.keyNotification_of_running (h : s.status = .running) (k : Key) : s.keyNotification k = s := by
  rw [State.keyNotification, h]

theorem State.keyNotification_of_blocked {x : Reg} (h : s.status = .blocked x) (k : Key) :
    s.keyNotification k = ((s.setReg x (keyOperand k)).setStatus .running).emit (.render s.fb) := by
  rw [State.keyNotification, h]
  rfl

theorem State.hostShutdown_of_running (h : s.status = .running) : s.hostShutdown = s.requestShutdown := by
  rw [State.hostShutdown, h]

theorem State.hostShutdown_of_blocked {x : Reg} (h : s.status = .blocked x) :
    s.hostShutdown = s.requestShutdown.stop := by
  rw [State.hostShutdown, h]

end

section
variable (s : State)

/-- The render at the end of a step is an event and nothing else. -/
theorem State.renderIfRunning_eq : s.renderIfRunning = { s with out := s.renderIfRunning.out } := by
  unfold State.renderIfRunning
  split <;> rfl

theorem State.tickDelay_eq : s.tickDelay = { s with dt := s.tickDelay.dt } := by
  unfold State.tickDelay
  split <;> rfl

theorem State.tickSound_eq : s.tickSound = { s with st := s.tickSound.st, out := s.tickSound.out } := by
  unfold State.tickSound
  split <;> rfl

theorem State.tickDelay_dt : s.tickDelay.dt.toNat = s.dt.toNat - 1 := by
  unfold State.tickDelay
  split
  · next h => simp [h]
  · rw [State.setDelay_dt]
    bv_omega

theorem State.tickSound_st : s.tickSound.st.toNat = s.st.toNat - 1 := by
  unfold State.tickSound
  split
  · next h => simp [h]
  · rw [State.emit_st, State.setSound_st]
    bv_omega

theorem State.tickSound_out : s.tickSound.out = if s.st = 0 then s.out else s.out ++ [.beep beepMs] := by
  unfold State.tickSound
  split <;> rfl

end

/-! ### The step (R70 to R73, R292, R293) -/

/-- Settles O8. -/
theorem stepRunsDecodedInstruction : Obligations.StepRunsDecodedInstruction := by
  intro s i hr ht hq hpc hd
  refine ⟨?_, by bv_omega⟩
  rw [step_engine s hr ht hq hpc, runWord_of_ok hd]
  rfl

/-- Settles O10. -/
theorem fetchBoundFinishesRun : Obligations.FetchBoundFinishesRun := by
  intro s hr ht hq hpc
  have haction : actionOf s.turn s = .next (s.endRun .finished .finished) :=
    ht ▸ engineStep_of_fetchBound hq (State.isBlocked_of_running hr) hpc
  exact ⟨_, step_of_action (runEnded_of_running hr) haction, rfl⟩

/-- Settles O11. -/
theorem shutdownStopsRun : Obligations.ShutdownStopsRun := by
  refine fun s => ⟨fun hr ht hq => ?_, fun x hb ht => ?_, fun hr ht => ?_⟩
  · have haction : actionOf s.turn s = .next s.stop := ht ▸ engineStep_of_shutdownReq hq
    exact ⟨_, step_of_action (runEnded_of_running hr) haction, rfl⟩
  · have haction : actionOf s.turn s = .next s.requestShutdown.stop := by
      rw [ht, ← State.hostShutdown_of_blocked hb]
      rfl
    exact ⟨_, step_of_action (runEnded_of_blocked hb) haction, rfl⟩
  · have haction : actionOf s.turn s = .next s.requestShutdown := by
      rw [ht, ← State.hostShutdown_of_running hr]
      rfl
    exact ⟨_, step_of_action (runEnded_of_running hr) haction, rfl⟩

theorem step_of_runEnded {s : State} {r : Fault} (h : runEnded s.status = some r) : step s = .fault r := by
  rw [step, machineStep, h]

/-- Settles O12. -/
theorem endedRunTakesNoStep : Obligations.EndedRunTakesNoStep := fun _ =>
  ⟨fun h => step_of_runEnded (h ▸ rfl), fun h => step_of_runEnded (h ▸ rfl), fun h => step_of_runEnded (h ▸ rfl),
    fun _ _ _ h => step_of_runEnded (h ▸ rfl)⟩

/-! ### The events of a step (R73, R260, R293) -/

/-- No event of the list is a render. -/
def NoRender (evs : List Event) : Prop := ∀ e ∈ evs, ∀ f, e ≠ .render f

theorem noRender_nil : NoRender [] := nofun

theorem noRender_cons {e : Event} {evs : List Event} (he : ∀ f, e ≠ .render f) (hevs : NoRender evs) :
    NoRender (e :: evs) :=
  List.forall_mem_cons.2 ⟨he, hevs⟩

theorem noRender_endEvents {e : Event} (he : ∀ f, e ≠ .render f) : NoRender (endEvents e) :=
  noRender_cons he (noRender_cons nofun (noRender_cons nofun (noRender_cons nofun noRender_nil)))

/-- The instruction itself, or the report of an unknown word, renders nothing. -/
theorem runWord_out {w : Word} {s t : State} (h : runWord w s = .next t) :
    ∃ evs, NoRender evs ∧ t.out = s.out ++ evs := by
  obtain rfl | ⟨i, -, hi⟩ := runWord_eq_next h
  · exact ⟨[.diag (s.pc - 2) w], noRender_cons nofun noRender_nil, rfl⟩
  · obtain ⟨kind, -, rfl⟩ | ⟨-, -, rfl⟩ := exec_eq_next hi
    · exact ⟨endEvents (.fault kind (s.pc - 2) (encode i)), noRender_endEvents nofun, rfl⟩
    · exact ⟨[], noRender_nil, by simp⟩

/-- Settles O13, by the cases of an engine step: only one that ran a word and still Runs renders. -/
theorem everyRunningStepRendersOnce : Obligations.EveryRunningStepRendersOnce := by
  intro s t hr ht h
  obtain ⟨-, u, hu, rfl⟩ := (step_eq_next s t).1 h
  rw [ht] at hu
  obtain ⟨-, rfl⟩ | ⟨hb, -⟩ | ⟨-, rfl⟩ | ⟨-, -, -, x, hx, rfl⟩ := engineStep_eq_next hu
  · exact ⟨endEvents .stopped, noRender_endEvents nofun, nofun, fun _ => rfl⟩
  · rw [State.isBlocked_of_running hr] at hb
    cases hb
  · exact ⟨endEvents .finished, noRender_endEvents nofun, nofun, fun _ => rfl⟩
  · obtain ⟨evs, hevs, hout⟩ := runWord_out hx
    refine ⟨evs, hevs, ?_⟩
    by_cases hrun : x.status = .running
    · rw [State.renderIfRunning_of_running hrun]
      exact ⟨fun _ => by simp [hout], fun hne => absurd hrun hne⟩
    · rw [State.renderIfRunning_of_ne hrun]
      exact ⟨fun h => absurd h hrun, fun _ => hout⟩

/-- Settles O29: of all a step can do on a fetched word only the fatal error leaves the status Fault, and the word it
records is the fetched one, since decoding and encoding agree. -/
theorem fatalErrorRecordsFetchedWord : Obligations.FatalErrorRecordsFetchedWord := by
  intro s t kind a w hr ht hq hpc h hfault
  rw [step_engine s hr ht hq hpc] at h
  obtain ⟨_, hrun, rfl⟩ := (onNext_eq_next _ _ _).1 h
  obtain ⟨x, hx, rfl⟩ := (onNext_eq_next _ _ _).1 hrun
  have hxfault : x.status = .fault kind a w := by
    rw [State.passTurn_status, State.renderIfRunning_eq] at hfault
    exact hfault
  have hnot : x.status ≠ .running := by simp [hxfault]
  obtain rfl | ⟨i, hi, hexec⟩ := runWord_eq_next hx
  · exact absurd hr hnot
  · obtain ⟨kind', -, rfl⟩ | ⟨-, -, rfl⟩ := exec_eq_next hexec
    · obtain ⟨rfl, rfl, rfl⟩ : kind' = kind ∧ s.advancePc.pc - 2 = a ∧ encode i = w := by
        simpa [State.fatal_eq] using hxfault
      rw [State.renderIfRunning_of_ne hnot]
      exact ⟨advance_back s, hi, rfl⟩
    · rcases execEffect_status i s.advancePc with hs | ⟨y, hs⟩
      · exact absurd (hs.trans hr) hnot
      · rw [hs] at hxfault
        cases hxfault

/-! ### The other agents (R265, R269, R273, R274, R292) -/

/-- Settles O30, agent by agent; for the keyboard and the host the engine is Running or Blocked. -/
theorem asynchronousInputsHaveOnlyTheirEffects : Obligations.AsynchronousInputsHaveOnlyTheirEffects := by
  intro s t h
  obtain ⟨hrun, u, hu, rfl⟩ := (step_eq_next s t).1 h
  refine ⟨fun ht => ?_, fun ht => ?_, fun k ht => ?_, fun ht => ?_⟩ <;> rw [ht] at hu <;> cases hu
  · refine ⟨?_, State.tickDelay_dt s⟩
    rw [State.tickDelay_eq]
    rfl
  · refine ⟨?_, State.tickSound_st s, State.tickSound_out s⟩
    rw [State.tickSound_eq]
    rfl
  · obtain hr | ⟨x, hb⟩ := runEnded_eq_none.1 hrun
    · rw [State.keyNotification_of_running hr, hr]
      exact ⟨by rw [← hr]; rfl, fun _ => ⟨rfl, rfl⟩, nofun⟩
    · rw [State.keyNotification_of_blocked hb, hb]
      refine ⟨rfl, nofun, fun y hy => ?_⟩
      cases hy
      exact ⟨by simp [keyOperand_toNat], fun r hne => State.setReg_reg_ne s x r _ hne⟩
  · obtain hr | ⟨x, hb⟩ := runEnded_eq_none.1 hrun
    · rw [State.hostShutdown_of_running hr, hr]
      exact ⟨rfl, fun _ => ⟨hr, rfl⟩, nofun⟩
    · rw [State.hostShutdown_of_blocked hb, hb]
      exact ⟨rfl, nofun, fun _ _ => rfl⟩

/-- Settles O58. -/
theorem keyWaitBlocksUntilKey : Obligations.KeyWaitBlocksUntilKey := by
  refine fun x s => ⟨encodeXKk_toNat_fixed 0xF x 0x0A, ⟨_, rfl, rfl, fun _ => rfl⟩, fun hb ht hq => ?_,
    fun k hb ht => ?_, fun hb ht => ?_⟩
  · have haction : actionOf s.turn s = .next s := ht ▸ engineStep_of_blocked hq (State.isBlocked_of_blocked hb)
    exact ⟨_, step_of_action (runEnded_of_blocked hb) haction, rfl⟩
  · have haction : actionOf s.turn s =
        .next (((s.setReg x (keyOperand k)).setStatus .running).emit (.render s.fb)) := by
      rw [ht, ← State.keyNotification_of_blocked hb]
      rfl
    exact ⟨_, step_of_action (runEnded_of_blocked hb) haction, rfl, by simp [keyOperand_toNat],
      fun r hne => State.setReg_reg_ne s x r _ hne⟩
  · have haction : actionOf s.turn s = .next s.requestShutdown.stop := by
      rw [ht, ← State.hostShutdown_of_blocked hb]
      rfl
    exact ⟨_, step_of_action (runEnded_of_blocked hb) haction, rfl, rfl⟩

/-! ### Timers over many ticks (R273, R274) -/

section
variable (s : State) (n : Nat)

theorem State.tickDelay_iterate_dt : (State.tickDelay^[n] s).dt.toNat = s.dt.toNat - n := by
  induction n with
  | zero => rfl
  | succ n ih => rw [Function.iterate_succ_apply', State.tickDelay_dt, ih, Nat.sub_sub]

theorem State.tickSound_iterate_st : (State.tickSound^[n] s).st.toNat = s.st.toNat - n := by
  induction n with
  | zero => rfl
  | succ n ih => rw [Function.iterate_succ_apply', State.tickSound_st, ih, Nat.sub_sub]

/-- The tick after `n` others beeps exactly when the timer held more than `n`. -/
theorem State.tickSound_iterate_out :
    (State.tickSound^[n] s).out = s.out ++ List.replicate (min n s.st.toNat) (.beep beepMs) := by
  induction n with
  | zero => simp
  | succ n ih =>
    have hst := State.tickSound_iterate_st s n
    rw [Function.iterate_succ_apply', State.tickSound_out, ih]
    split
    · next h0 =>
      have hidle : s.st.toNat ≤ n := by simp [h0] at hst; omega
      rw [Nat.min_eq_right hidle, Nat.min_eq_right (by omega)]
    · next h0 =>
      have harmed : n < s.st.toNat := by
        by_contra hle
        exact h0 (BitVec.eq_of_toNat_eq (by simp; omega))
      rw [Nat.min_eq_left (by omega), Nat.min_eq_left (by omega), List.replicate_succ', List.append_assoc]

end

/-- Settles O60. -/
theorem timersCountDownToZero : Obligations.TimersCountDownToZero := fun s n =>
  ⟨State.tickDelay_iterate_dt s n, State.tickSound_iterate_st s n, State.tickSound_iterate_out s n⟩

/-- Settles O57. -/
theorem delayTimerIsRead : Obligations.DelayTimerIsRead := by
  refine ⟨fun x s => ⟨encodeXKk_toNat_fixed 0xF x 0x07, exec_ldVxDt x s⟩, fun x s n => ?_⟩
  obtain ⟨t, ht, -, hread⟩ := exec_ldVxDt x (State.tickDelay^[n] s)
  exact ⟨t, ht, by rw [hread, State.tickDelay_iterate_dt]⟩

end Sys2Proof.Machine
end

section
/-! PROOFS of the family `other`: the invariant, progress, reset and load (`10_state.md` section 10,
`70_reset_and_hazards.md` section 1). -/

namespace Sys2Proof.Machine

/-! ### The part of the invariant that does not speak of the status -/

/-- The bounds of memory, sp, pc and the stack (R20, R25 to R27). -/
structure State.Bounded (s : State) : Prop where
  memory : s.mem.wf
  stackPointer : s.sp.toNat ≤ 16
  programCounter : s.pc.toNat ≤ 0x10FE
  returnAddresses : ∀ a ∈ s.stack.toList, a.toNat ≤ 0x1000

theorem State.Consistent.bounded {s : State} (h : s.Consistent) : s.Bounded :=
  ⟨h.memory, h.stackPointer, h.programCounter, h.returnAddresses⟩

/-- After the start the invariant is the bounds, and no pending shutdown while Blocked. -/
theorem State.Bounded.consistent {s : State} (h : s.Bounded) (hstart : s.status ≠ .notStarted)
    (hblocked : ∀ x, s.status = .blocked x → s.shutdownReq = false) : s.Consistent :=
  ⟨h.memory, h.stackPointer, h.programCounter, h.returnAddresses, fun hs => absurd hs hstart, hblocked⟩

theorem State.Bounded.congr {s t : State} (h : s.Bounded) (hmem : t.mem = s.mem) (hsp : t.sp = s.sp)
    (hpc : t.pc = s.pc) (hstack : t.stack = s.stack) : t.Bounded :=
  ⟨hmem ▸ h.memory, hsp ▸ h.stackPointer, hpc ▸ h.programCounter, hstack ▸ h.returnAddresses⟩

/-- An action that leaves memory, sp, pc and the stack alone can break the invariant by the status only. -/
theorem State.Consistent.congr {s t : State} (h : s.Consistent) (hmem : t.mem = s.mem) (hsp : t.sp = s.sp)
    (hpc : t.pc = s.pc) (hstack : t.stack = s.stack) (hstart : t.status ≠ .notStarted)
    (hblocked : ∀ x, t.status = .blocked x → t.shutdownReq = false) : t.Consistent :=
  (h.bounded.congr hmem hsp hpc hstack).consistent hstart hblocked

theorem State.Bounded.renderIfRunning {s : State} (h : s.Bounded) : s.renderIfRunning.Bounded := by
  rw [State.renderIfRunning_eq]
  exact h.congr rfl rfl rfl rfl

/-! ### Every instruction keeps the bounds -/

section
variable {i : Instr} {s : State}

theorem execEffect_wf (h : s.mem.wf) : (execEffect i s).mem.wf := by
  cases i with
  | ldB | store => exact Memory.wf_writeBytes _ _ _ h
  | _ =>
    rw [execEffect_mem s (by simp) (by simp)]
    exact h

theorem execEffect_sp_le (h : s.sp.toNat ≤ 16) (he : errorOf i s = none) : (execEffect i s).sp.toNat ≤ 16 := by
  cases i with
  | call nnn =>
    have hlt : s.sp.toNat < 16 := sp_lt_of_call_no_error he fun _ => h
    exact (State.push_sp_toNat hlt s.pc).trans_le hlt
  | ret =>
    have hpop : (execEffect .ret s).sp.toNat = s.sp.toNat - 1 := State.popPc_sp_toNat (sp_ne_zero_of_ret_no_error he)
    omega
  | _ =>
    rw [execEffect_sp s rfl]
    exact h

/-- What is popped is an entry of the stack, or the 0 that an index outside it reads as. -/
theorem State.stackEntry_le (h : ∀ a ∈ s.stack.toList, a.toNat ≤ 0x1000) (j : Byte) :
    (s.stackEntry j).toNat ≤ 0x1000 := by
  rw [State.stackEntry_eq]
  cases hj : s.stack[j.toNat]? with
  | none => decide
  | some a => exact h a (Vector.mem_toList_iff.2 (Vector.mem_of_getElem? hj))

theorem State.skipIf_pc_le (h : s.pc.toNat ≤ 0x1000) (c : Bool) : (s.skipIf c).pc.toNat ≤ 0x10FE := by
  rw [State.skipIf_pc]
  split <;> bv_omega

/-- The advanced pc is at most 4096; the largest target is V0 + nnn = 255 + 4095 = 0x10FE (R25, R108). -/
theorem execEffect_pc_le (hpc : s.pc.toNat ≤ 0x1000) (hstack : ∀ a ∈ s.stack.toList, a.toNat ≤ 0x1000) :
    (execEffect i s).pc.toNat ≤ 0x10FE := by
  cases i with
  | seImm | sneImm | seReg | sneReg | skp | sknp => exact State.skipIf_pc_le hpc _
  | ret => exact (State.stackEntry_le hstack _).trans (by decide)
  | jp nnn | call nnn =>
    have htarget := addrOperand_toNat nnn
    simp only [execEffect, State.setPc_pc]
    omega
  | jpV0 nnn =>
    have htarget := addrOperand_toNat nnn
    have hoffset := State.regOperand_toNat s 0
    simp only [execEffect, State.setPc_pc]
    bv_omega
  | load x =>
    rw [execEffect, State.loadUpTo_pc]
    exact hpc.trans (by decide)
  | _ => exact hpc.trans (by decide)

theorem execEffect_returnAddresses (hpc : s.pc.toNat ≤ 0x1000) (hstack : ∀ a ∈ s.stack.toList, a.toNat ≤ 0x1000) :
    ∀ a ∈ (execEffect i s).stack.toList, a.toNat ≤ 0x1000 := by
  cases i with
  | call nnn =>
    intro a ha
    have hset : a ∈ s.stack.toList.set s.sp.toNat s.pc := by simpa [execEffect] using ha
    rcases List.mem_or_eq_of_mem_set hset with hold | rfl
    · exact hstack a hold
    · exact hpc
  | _ =>
    rw [execEffect_stack s (by simp)]
    exact hstack

theorem State.Bounded.execEffect (h : s.Bounded) (hpc : s.pc.toNat ≤ 0x1000) (he : errorOf i s = none) :
    (execEffect i s).Bounded :=
  ⟨execEffect_wf h.memory, execEffect_sp_le h.stackPointer he, execEffect_pc_le hpc h.returnAddresses,
    execEffect_returnAddresses hpc h.returnAddresses⟩

end

/-! ### Every action keeps the invariant -/

theorem State.Consistent.passTurn {s : State} (h : s.Consistent) : s.passTurn.Consistent :=
  ⟨h.memory, h.stackPointer, h.programCounter, h.returnAddresses, h.idleBeforeStart, h.noPendingShutdown⟩

theorem not_notStarted_of_lasts {s : State} (h : runEnded s.status = none) : s.status ≠ .notStarted := by
  intro hs
  rw [hs] at h
  cases h

/-- The fetched word runs with pc advanced, which is at most 4096, and with no shutdown pending. -/
theorem runWord_keeps {w : Word} {s t : State} (hs : s.Bounded) (hrun : runEnded s.status = none)
    (hq : s.shutdownReq = false) (hpc : s.pc.toNat + 2 ≤ 4096) (h : runWord w s.advancePc = .next t)
    (hf : t.faulted = false) :
    t.Bounded ∧ t.status ≠ .notStarted ∧ t.shutdownReq = false := by
  have hadv : s.advancePc.pc.toNat ≤ 0x1000 := by
    rw [State.advancePc_pc]
    bv_omega
  have hbounded : s.advancePc.Bounded :=
    ⟨hs.memory, hs.stackPointer, hadv.trans (by decide), hs.returnAddresses⟩
  obtain rfl | ⟨i, -, hi⟩ := runWord_eq_next h
  · exact ⟨hbounded.congr rfl rfl rfl rfl, not_notStarted_of_lasts hrun, hq⟩
  · obtain ⟨he, -, rfl⟩ := exec_completes hi hf
    refine ⟨hbounded.execEffect hadv he, ?_, (execEffect_shutdownReq i _).trans hq⟩
    rcases execEffect_status i s.advancePc with hstatus | ⟨x, hstatus⟩
    · rw [hstatus]
      exact not_notStarted_of_lasts hrun
    · simp [hstatus]

theorem engineStep_keeps {s u : State} (hs : s.Consistent) (hrun : runEnded s.status = none)
    (h : engineStep s = .next u) (hf : u.faulted = false) : u.Consistent := by
  obtain ⟨-, rfl⟩ | ⟨-, rfl⟩ | ⟨-, rfl⟩ | ⟨hq, -, hpc, x, hx, rfl⟩ := engineStep_eq_next h
  · exact hs.congr rfl rfl rfl rfl nofun nofun
  · exact hs
  · exact hs.congr rfl rfl rfl rfl nofun nofun
  · have hxf : x.faulted = false := by
      rw [State.renderIfRunning_eq] at hf
      exact hf
    obtain ⟨hb, hstart, hxq⟩ := runWord_keeps hs.bounded hrun hq hpc hx hxf
    refine hb.renderIfRunning.consistent ?_ ?_ <;> rw [State.renderIfRunning_eq]
    · exact hstart
    · exact fun _ _ => hxq

theorem State.Consistent.keyNotification {s : State} (hs : s.Consistent) (hrun : runEnded s.status = none) (k : Key) :
    (s.keyNotification k).Consistent := by
  obtain hr | ⟨x, hb⟩ := runEnded_eq_none.1 hrun
  · rwa [State.keyNotification_of_running hr]
  · rw [State.keyNotification_of_blocked hb]
    exact hs.congr rfl rfl rfl rfl nofun nofun

theorem State.Consistent.hostShutdown {s : State} (hs : s.Consistent) (hrun : runEnded s.status = none) :
    s.hostShutdown.Consistent := by
  obtain hr | ⟨x, hb⟩ := runEnded_eq_none.1 hrun
  · rw [State.hostShutdown_of_running hr]
    exact hs.congr rfl rfl rfl rfl (by simp [hr]) (by simp [hr])
  · rw [State.hostShutdown_of_blocked hb]
    exact hs.congr rfl rfl rfl rfl nofun nofun

theorem actionOf_keeps {s u : State} (hs : s.Consistent) (hrun : runEnded s.status = none)
    (h : actionOf s.turn s = .next u) (hf : u.faulted = false) : u.Consistent := by
  have hstart := not_notStarted_of_lasts hrun
  cases ht : s.turn <;> rw [ht] at h
  case engine => exact engineStep_keeps hs hrun h hf
  case delayTick =>
    cases h
    rw [State.tickDelay_eq]
    exact hs.congr rfl rfl rfl rfl hstart hs.noPendingShutdown
  case soundTick =>
    cases h
    rw [State.tickSound_eq]
    exact hs.congr rfl rfl rfl rfl hstart hs.noPendingShutdown
  case keyPress k =>
    cases h
    exact hs.keyNotification hrun k
  case shutdown =>
    cases h
    exact hs.hostShutdown hrun

/-- A run that lasts has met no fatal error, so the invariant says all it says. -/
theorem State.Inv.consistent {s : State} (h : s.Inv) (hrun : runEnded s.status = none) : s.Consistent := by
  refine h ?_
  obtain hr | ⟨x, hb⟩ := runEnded_eq_none.1 hrun
  · rw [State.faulted, hr]
  · rw [State.faulted, hb]

/-- Settles O19: a run that takes a step has not faulted, and every action keeps the invariant. -/
theorem stepKeepsInvariant : Obligations.StepKeepsInvariant := by
  intro s t hs h hf
  obtain ⟨hrun, u, hu, rfl⟩ := (step_eq_next s t).1 h
  exact (actionOf_keeps (hs.consistent hrun) hrun hu hf).passTurn

/-! ### Progress (R10) -/

theorem exec_answers {i : Instr} {s : State} (hs : StackOk i s) : ∃ t, exec i s = .next t := by
  cases he : errorOf i s with
  | some kind => exact ⟨_, exec_of_error he⟩
  | none => exact ⟨_, exec_of_no_error he hs⟩

theorem runWord_answers (w : Word) {s : State} (hsp : s.sp.toNat ≤ 16) : ∃ t, runWord w s = .next t := by
  cases hd : decodeWord w with
  | ok i =>
    rw [runWord_of_ok hd]
    exact exec_answers fun _ => hsp
  | error e => exact ⟨_, runWord_of_error hd s⟩

theorem engineStep_answers {s : State} (hsp : s.sp.toNat ≤ 16) : ∃ t, engineStep s = .next t := by
  cases hq : s.shutdownReq with
  | true => exact ⟨_, engineStep_of_shutdownReq hq⟩
  | false =>
    cases hb : s.isBlocked with
    | true => exact ⟨_, engineStep_of_blocked hq hb⟩
    | false =>
      rcases Nat.lt_or_ge 4096 (s.pc.toNat + 2) with hpc | hpc
      · exact ⟨_, engineStep_of_fetchBound hq hb hpc⟩
      · obtain ⟨x, hx⟩ := runWord_answers (fetchWord s) (s := s.advancePc) hsp
        rw [engineStep_of_fetch hq hb hpc, hx]
        exact ⟨_, rfl⟩

theorem actionOf_answers {s : State} (hsp : s.sp.toNat ≤ 16) : ∃ t, actionOf s.turn s = .next t := by
  cases s.turn with
  | engine => exact engineStep_answers hsp
  | delayTick | soundTick | keyPress k | shutdown => exact ⟨_, rfl⟩

/-- Settles O20: the invariant keeps sp in the range in which CALL and RET answer. -/
theorem stepAnswersWhileRunLasts : Obligations.StepAnswersWhileRunLasts := by
  refine fun s hs => ⟨?_, fun hrun => ?_⟩
  · rintro ⟨t, h⟩
    exact runEnded_eq_none.1 ((step_eq_next s t).1 h).1
  · have hlasts := runEnded_eq_none.2 hrun
    obtain ⟨u, hu⟩ := actionOf_answers (hs.consistent hlasts).stackPointer
    exact ⟨_, step_of_action hlasts hu⟩

/-! ### Reset and load (R37, R300 to R302) -/

/-- Settles O14. -/
theorem resetEntersAtLoadOffset : Obligations.ResetEntersAtLoadOffset :=
  ⟨rfl, rfl, rfl, fun j => by simp [State.reset], rfl, rfl, rfl, rfl⟩

theorem resetByte_above {a : Nat} (h : 80 ≤ a) : resetByte a = 0 := List.getD_eq_default _ _ h

/-- Settles O15: memory lists nothing at reset, so a read is a read of the font table. -/
theorem resetMemoryHoldsFont : Obligations.ResetMemoryHoldsFont :=
  ⟨by decide, fun _ h => resetByte_above h, fun r => by simp [State.reset, State.reg], rfl,
    Framebuffer.pixel_clear⟩

theorem State.consistent_reset : State.reset.Consistent :=
  ⟨Memory.wf_reset, by decide, by decide, by simp [State.reset], fun _ => ⟨rfl, rfl⟩, nofun⟩

/-- Settles O17. -/
theorem invariantHoldsAtReset : Obligations.InvariantHoldsAtReset := fun _ => State.consistent_reset

section
variable {image : List Byte}

theorem boot_of_le (h : image.length ≤ 3584) :
    boot image = State.reset.setMem (State.reset.mem.writeBytes 512 image) :=
  if_pos (decide_eq_true h)

theorem boot_of_gt (h : 3584 < image.length) :
    boot image = (State.reset.setStatus .notStarted).emit (.loadRejected image.length) :=
  if_neg fun hwf => absurd (of_decide_eq_true hwf) (Nat.not_le.2 h)

end

/-- Settles O16. -/
theorem imageLoadsVerbatim : Obligations.ImageLoadsVerbatim := by
  refine fun image => ⟨fun h => ?_, fun h => ?_⟩
  · rw [boot_of_le h]
    exact ⟨rfl, rfl, rfl, fun k hk => Memory.read_writeBytes_inside image _ 512 k hk (by omega),
      fun a ha => Memory.read_writeBytes_outside image _ 512 a ha⟩
  · rw [boot_of_gt h]
    exact ⟨rfl, fun _ => rfl⟩

/-- Settles O18: loading writes memory in canonical form, a rejection keeps the Idle timers. -/
theorem invariantHoldsAfterLoad : Obligations.InvariantHoldsAfterLoad := by
  intro image _
  obtain ⟨hmem, hsp, hpc, hstack, hidle, hpending⟩ := State.consistent_reset
  rcases Nat.lt_or_ge 3584 image.length with h | h
  · rw [boot_of_gt h]
    exact ⟨hmem, hsp, hpc, hstack, fun _ => ⟨rfl, rfl⟩, nofun⟩
  · rw [boot_of_le h]
    exact ⟨Memory.wf_writeBytes _ _ _ hmem, hsp, hpc, hstack, hidle, hpending⟩

end Sys2Proof.Machine
end

section
/-! PROOFS of the family `other`: single instructions (`40_control.md`, `41_alu.md`, `42_index_memory.md`,
`44_keys_timers.md`), and the fetch of stored bytes (`20_memory.md` section 6). -/

namespace Sys2Proof.Machine

/-! ### Control transfer (`40_control.md`) -/

/-- Settles O32. -/
theorem retPopsReturnAddress : Obligations.RetPopsReturnAddress := by
  refine ⟨rfl, fun s => ⟨fun h0 => exists_fatalEntry (i := .ret) (if_pos h0), fun hpos hle => ?_,
    fun habove => exec_of_sp_above (i := .ret) rfl habove⟩⟩
  have hne : s.sp.toNat ≠ 0 := by omega
  have hexec : exec .ret s = .next s.popPc := exec_of_no_error (i := .ret) (if_neg hne) fun _ => hle
  have hsp : s.popPc.sp.toNat = s.sp.toNat - 1 := State.popPc_sp_toNat hne
  refine ⟨_, hexec, rfl, fun _ => rfl, by omega, ?_⟩
  have hlt : s.sp.toNat - 1 < 16 := by omega
  have hidx : (s.sp - 1).toNat = s.sp.toNat - 1 := hsp
  rw [State.popPc_pc, State.stackEntry_eq, hidx, Vector.getElem?_eq_getElem hlt]
  rfl

/-- Settles O33. -/
theorem jumpSetsPc : Obligations.JumpSetsPc := fun nnn s =>
  ⟨encodeNnn_toNat 0x1 nnn, _, rfl, State.onlyPc_setPc s _, addrOperand_toNat nnn⟩

theorem exec_call_of_lt {s : State} (nnn : Addr) (h : s.sp.toNat < 16) :
    exec (.call nnn) s = .next ((s.push s.pc).setPc (addrOperand nnn)) :=
  exec_of_no_error (i := .call nnn) (if_neg (Nat.ne_of_lt h)) fun _ => Nat.le_of_lt h

theorem State.push_entry {s : State} (a : Word) (h : s.sp.toNat < 16) : (s.push a).stack[s.sp.toNat]? = some a := by
  rw [State.push_stack, Vector.getElem?_setIfInBounds_self_of_lt h]

theorem State.push_entry_ne {s : State} (a : Word) {j : Nat} (h : j ≠ s.sp.toNat) :
    (s.push a).stack[j]? = s.stack[j]? := by
  rw [State.push_stack, Vector.getElem?_setIfInBounds_ne h.symm]

/-- Settles O34. -/
theorem callPushesReturnAddress : Obligations.CallPushesReturnAddress := by
  refine fun nnn s => ⟨encodeNnn_toNat 0x2 nnn, fun h16 => exists_fatalEntry (i := .call nnn) (if_pos h16),
    fun hlt => ?_, fun habove => exec_of_sp_above (i := .call nnn) rfl habove⟩
  exact ⟨_, exec_call_of_lt nnn hlt, rfl, fun _ => rfl, State.push_entry s.pc hlt,
    fun j hj => State.push_entry_ne s.pc hj, State.push_sp_toNat hlt s.pc, addrOperand_toNat nnn⟩

/-- Settles O35: RET's index is CALL's, and the entry there is the pushed pc. -/
theorem callThenReturnRestores : Obligations.CallThenReturnRestores := by
  intro nnn s hlt
  refine ⟨_, exec_call_of_lt nnn hlt, fun t' hstack hsp => ?_⟩
  have hcount : t'.sp.toNat = s.sp.toNat + 1 := hsp ▸ State.push_sp_toNat hlt s.pc
  have hback : t'.sp - 1 = s.sp := by
    rw [hsp, State.setPc_sp, State.push_sp]
    simp
  have hentry : t'.stack[s.sp.toNat]? = some s.pc := hstack ▸ State.push_entry s.pc hlt
  have hexec : exec .ret t' = .next t'.popPc :=
    exec_of_no_error (i := .ret) (if_neg (by omega)) fun _ => by omega
  refine ⟨_, hexec, ?_, hback⟩
  rw [State.popPc_pc, State.stackEntry_eq, hback, hentry]
  rfl

/-- Settles O36. -/
theorem immediateSkips : Obligations.ImmediateSkips := fun x kk s =>
  ⟨encodeXKk_toNat 0x3 x kk, encodeXKk_toNat 0x4 x kk,
    exists_skip s rfl beq_iff_eq.2 beq_eq_false_iff_ne.2, exists_skip s rfl bne_iff_ne.2 bne_eq_false_iff_eq.2⟩

/-- Settles O37. -/
theorem registerSkips : Obligations.RegisterSkips := fun x y s =>
  ⟨encodeXYN_toNat_fixed 0x5 x y 0x0, encodeXYN_toNat_fixed 0x9 x y 0x0,
    exists_skip s rfl beq_iff_eq.2 beq_eq_false_iff_ne.2, exists_skip s rfl bne_iff_ne.2 bne_eq_false_iff_eq.2⟩

/-- Settles O38: the sum is at most 255 + 4095, so the 16-bit addition does not wrap. -/
theorem indexedJumpAddsV0 : Obligations.IndexedJumpAddsV0 := by
  refine fun nnn s => ⟨encodeNnn_toNat 0xB nnn, _, rfl, State.onlyPc_setPc s _, ?_⟩
  have hoffset := State.regOperand_toNat s 0
  have htarget := addrOperand_toNat nnn
  rw [State.setPc_pc]
  bv_omega

/-! ### Loads, arithmetic, logic, shifts, random (`41_alu.md`) -/

@[simp] theorem flagByte_toNat (c : Bool) : (flagByte c).toNat = c.toNat := by cases c <;> rfl

/-- Settles O39. -/
theorem registerLoads : Obligations.RegisterLoads :=
  ⟨fun x kk s => ⟨encodeXKk_toNat 0x6 x kk, _, rfl, State.onlyRegs_setReg s x kk, State.setReg_reg_same s x kk⟩,
    fun x y s => ⟨encodeXYN_toNat_fixed 0x8 x y 0x0, _, rfl, State.onlyRegs_setReg s x _,
      State.setReg_reg_same s x _⟩⟩

/-- Settles O40. -/
theorem addImmediateWraps : Obligations.AddImmediateWraps := fun x kk s =>
  ⟨encodeXKk_toNat 0x7 x kk, _, rfl, State.onlyRegs_setReg s x _, by
    rw [State.setReg_reg_same, BitVec.toNat_add]⟩

/-- Settles O41. -/
theorem logicActsBitwise : Obligations.LogicActsBitwise := fun x y s =>
  ⟨encodeXYN_toNat_fixed 0x8 x y 0x1, encodeXYN_toNat_fixed 0x8 x y 0x2, encodeXYN_toNat_fixed 0x8 x y 0x3,
    ⟨_, rfl, State.onlyRegs_setReg s x _, fun j => by rw [State.setReg_reg_same, BitVec.getLsbD_or]⟩,
    ⟨_, rfl, State.onlyRegs_setReg s x _, fun j => by rw [State.setReg_reg_same, BitVec.getLsbD_and]⟩,
    ⟨_, rfl, State.onlyRegs_setReg s x _, fun j => by rw [State.setReg_reg_same, BitVec.getLsbD_xor]⟩⟩

theorem flagByte_decide_toNat (p : Prop) [Decidable p] : (flagByte (decide p)).toNat = if p then 1 else 0 := by
  by_cases h : p <;> simp [h]

/-- Settles O42. -/
theorem addSetsCarry : Obligations.AddSetsCarry := fun x y s =>
  ⟨encodeXYN_toNat_fixed 0x8 x y 0x4, _, rfl, State.onlyRegs_setRegFlag s x _ _,
    fun hx => by rw [State.setRegFlag_reg_same s _ _ hx, BitVec.toNat_add],
    by rw [State.setRegFlag_reg_vf]; exact flagByte_decide_toNat _⟩

theorem sub_toNat (p q : Byte) : (p - q).toNat = (p.toNat + 256 - q.toNat) % 256 := by
  rw [BitVec.toNat_sub]
  omega

/-- Settles O43. -/
theorem subtractSetsStrictFlag : Obligations.SubtractSetsStrictFlag := fun x y s =>
  ⟨encodeXYN_toNat_fixed 0x8 x y 0x5, _, rfl, State.onlyRegs_setRegFlag s x _ _,
    fun hx => by rw [State.setRegFlag_reg_same s _ _ hx, sub_toNat],
    by rw [State.setRegFlag_reg_vf]; exact flagByte_decide_toNat _⟩

/-- Settles O44. -/
theorem reverseSubtractSetsStrictFlag : Obligations.ReverseSubtractSetsStrictFlag := fun x y s =>
  ⟨encodeXYN_toNat_fixed 0x8 x y 0x7, _, rfl, State.onlyRegs_setRegFlag s x _ _,
    fun hx => by rw [State.setRegFlag_reg_same s _ _ hx, sub_toNat],
    by rw [State.setRegFlag_reg_vf]; exact flagByte_decide_toNat _⟩

theorem shrFlag_toNat (p : Byte) : (shrFlag p).toNat = p.toNat % 2 := by
  rw [shrFlag, flagByte_toNat, BitVec.getLsbD, Nat.testBit_zero]
  rcases Nat.mod_two_eq_zero_or_one p.toNat with h | h <;> simp [h]

theorem shlFlag_toNat (p : Byte) : (shlFlag p).toNat = p.toNat / 128 := by
  have hbit : p.toNat / 128 = 0 ∨ p.toNat / 128 = 1 := by omega
  rw [shlFlag, flagByte_toNat, BitVec.getLsbD, Nat.testBit_eq_decide_div_mod_eq]
  rcases hbit with h | h <;> simp [h]

/-- Settles O45. -/
theorem shiftsMoveOneBit : Obligations.ShiftsMoveOneBit := fun x y s =>
  ⟨encodeXYN_toNat_fixed 0x8 x y 0x6, encodeXYN_toNat_fixed 0x8 x y 0xE,
    ⟨_, rfl, State.onlyRegs_setRegFlag s x _ _,
      fun hx => by rw [State.setRegFlag_reg_same s _ _ hx, BitVec.toNat_ushiftRight, Nat.shiftRight_one],
      by rw [State.setRegFlag_reg_vf, shrFlag_toNat]⟩,
    ⟨_, rfl, State.onlyRegs_setRegFlag s x _ _,
      fun hx => by rw [State.setRegFlag_reg_same s _ _ hx, BitVec.toNat_shiftLeft, Nat.shiftLeft_eq, pow_one],
      by rw [State.setRegFlag_reg_vf, shlFlag_toNat]⟩⟩

/-- Settles O46. -/
theorem randomIsMaskedDraw : Obligations.RandomIsMaskedDraw := fun x kk s =>
  ⟨encodeXKk_toNat 0xC x kk, _, rfl, rfl, fun r hr => State.setReg_reg_ne s x r _ hr, fun _ => rfl,
    fun j => by rw [State.nextDraw_reg, State.setReg_reg_same, BitVec.getLsbD_and]⟩

/-! ### The index register (`42_index_memory.md`) -/

/-- Settles O47. -/
theorem indexLoads : Obligations.IndexLoads :=
  ⟨fun nnn s => ⟨encodeNnn_toNat 0xA nnn, _, rfl, State.onlyIndex_setI s _, addrOperand_toNat nnn⟩,
    fun x s => ⟨encodeXKk_toNat_fixed 0xF x 0x29, _, rfl, State.onlyIndex_setI s _,
      (glyphAddress_toNat _).trans (Nat.mul_comm _ _)⟩⟩

/-- Settles O48. -/
theorem indexAddWraps : Obligations.IndexAddWraps := fun x s =>
  ⟨encodeXKk_toNat_fixed 0xF x 0x1E, _, rfl, State.onlyIndex_setI s _, by
    rw [State.setI_i, BitVec.toNat_add, State.regOperand_toNat]⟩

/-! ### Stores and loads (`42_index_memory.md`), and the fetch of what was stored (R64) -/

section
variable {s : State} (x : Reg)

theorem exec_ldB_of_le (h : s.i.toNat + 3 ≤ 4096) :
    exec (.ldB x) s = .next (s.setMem (s.mem.writeBytes s.i.toNat (bcdDigits (s.reg x)))) :=
  if_pos ((fits_iff _ _).2 h)

theorem exec_store_of_le (h : s.i.toNat + x.val + 1 ≤ 4096) :
    exec (.store x) s = .next (s.setMem (s.mem.writeBytes s.i.toNat (s.regsUpTo x))) :=
  if_pos ((fits_iff _ _).2 h)

theorem exec_load_of_le (h : s.i.toNat + x.val + 1 ≤ 4096) : exec (.load x) s = .next (s.loadUpTo s.i.toNat x) :=
  if_pos ((fits_iff _ _).2 h)

@[simp] theorem State.regsUpTo_length : (s.regsUpTo x).length = x.val + 1 := by
  simp [State.regsUpTo]

theorem State.regsUpTo_getElem {k : Nat} (hk : k < (s.regsUpTo x).length) (hk16 : k < 16) :
    (s.regsUpTo x)[k] = s.reg ⟨k, hk16⟩ := by
  simp [State.regsUpTo, State.reg]

theorem read_store {k : Reg} (h : s.i.toNat + x.val + 1 ≤ 4096) (hk : k ≤ x) :
    (s.mem.writeBytes s.i.toNat (s.regsUpTo x)).read (s.i.toNat + k.val) = s.reg k := by
  have hlen : k.val < (s.regsUpTo x).length := by
    rw [State.regsUpTo_length]
    exact Nat.lt_succ_of_le hk
  rw [Memory.read_writeBytes_inside _ _ _ _ hlen (by rw [State.regsUpTo_length]; omega),
    State.regsUpTo_getElem x hlen k.isLt]

/-- What memory holds after the block store, at every address. -/
theorem read_store_eq_blockByte (h : s.i.toNat + x.val + 1 ≤ 4096) (a : Nat) :
    (s.mem.writeBytes s.i.toNat (s.regsUpTo x)).read a = blockByte s x a := by
  unfold blockByte
  split
  · next ha =>
    obtain ⟨k, rfl⟩ := Nat.exists_eq_add_of_le ha.1
    have hk : k < 16 := by omega
    have hread := read_store x (k := ⟨k, hk⟩) h (show k ≤ x.val by omega)
    rw [hread]
    congr 1
    exact Fin.ext (by simp; omega)
  · next ha => exact Memory.read_writeBytes_outside _ _ _ _ (by rw [State.regsUpTo_length]; omega)

@[simp] theorem bcdDigits_length (b : Byte) : (bcdDigits b).length = 3 := rfl

theorem read_ldB {k : Nat} (h : s.i.toNat + 3 ≤ 4096) (hk : k < 3) :
    (s.mem.writeBytes s.i.toNat (bcdDigits (s.reg x))).read (s.i.toNat + k) = (bcdDigits (s.reg x))[k]'hk :=
  Memory.read_writeBytes_inside _ _ _ _ hk h

/-- What memory holds after the BCD store, at every address. -/
theorem read_ldB_eq_bcdByte (h : s.i.toNat + 3 ≤ 4096) (a : Nat) :
    (s.mem.writeBytes s.i.toNat (bcdDigits (s.reg x))).read a = bcdByte s x a := by
  unfold bcdByte
  split_ifs with h0 h1 h2
  · exact h0 ▸ read_ldB x (k := 0) h (by decide)
  · exact h1 ▸ read_ldB x (k := 1) h (by decide)
  · exact h2 ▸ read_ldB x (k := 2) h (by decide)
  · exact Memory.read_writeBytes_outside _ _ _ _ (by rw [bcdDigits_length]; omega)

end

/-- A decimal digit of a byte fits in a byte. -/
theorem digit_toNat {d : Nat} (h : d < 256) : (BitVec.ofNat 8 d).toNat = d := by
  rw [BitVec.toNat_ofNat]
  exact Nat.mod_eq_of_lt h

/-- Settles O49. -/
theorem bcdStoresThreeDigits : Obligations.BcdStoresThreeDigits := by
  refine fun x s => ⟨encodeXKk_toNat_fixed 0xF x 0x33, fun h => ?_,
    fun h => exists_fatalEntry (i := .ldB x) (if_pos h)⟩
  have hb := (s.reg x).isLt
  have h0 := read_ldB x (k := 0) h (by decide)
  have h1 := read_ldB x (k := 1) h (by decide)
  have h2 := read_ldB x (k := 2) h (by decide)
  refine ⟨_, exec_ldB_of_le x h, State.onlyBytes_writeBytes s s.i.toNat (bcdDigits (s.reg x)), ?_, ?_, ?_⟩
  · exact (congrArg BitVec.toNat h0).trans (digit_toNat (by omega))
  · exact (congrArg BitVec.toNat h1).trans (digit_toNat (by omega))
  · exact (congrArg BitVec.toNat h2).trans (digit_toNat (by omega))

/-- Settles O50. -/
theorem blockStoreWritesRegisters : Obligations.BlockStoreWritesRegisters := by
  refine fun x s => ⟨encodeXKk_toNat_fixed 0xF x 0x55, fun h => ?_,
    fun h => exists_fatalEntry (i := .store x) (if_pos h)⟩
  have hframe := State.onlyBytes_writeBytes s s.i.toNat (s.regsUpTo x)
  rw [State.regsUpTo_length] at hframe
  exact ⟨_, exec_store_of_le x h, hframe, fun k hk => read_store x h hk⟩

/-- Settles O51. -/
theorem blockLoadReadsRegisters : Obligations.BlockLoadReadsRegisters := fun x s =>
  ⟨encodeXKk_toNat_fixed 0xF x 0x65,
    fun h => ⟨_, exec_load_of_le x h, State.onlyRegs_loadUpTo s _ x,
      fun k hk => (State.loadUpTo_reg s _ x k).trans (if_pos hk)⟩,
    fun h => exists_fatalEntry (i := .load x) (if_pos h)⟩

/-- A fetch sees what its two bytes hold, whoever wrote them (R50). -/
theorem fetchWord_of_reads {u : State} {f : Nat → Byte} (h0 : u.mem.read u.pc.toNat = f u.pc.toNat)
    (h1 : u.mem.read (u.pc.toNat + 1) = f (u.pc.toNat + 1)) :
    (fetchWord u).toNat = (f u.pc.toNat).toNat * 256 + (f (u.pc.toNat + 1)).toNat := by
  rw [fetchIsBigEndian u, h0, h1]

/-- Settles O31, by what memory holds at every address after each store. -/
theorem fetchSeesEarlierStores : Obligations.FetchSeesEarlierStores := by
  refine ⟨fun x s h => ⟨_, exec_store_of_le x h, fun u h0 h1 => ?_⟩,
    fun x s h => ⟨_, exec_ldB_of_le x h, fun u h0 h1 => ?_⟩⟩
  · exact fetchWord_of_reads (h0.trans (read_store_eq_blockByte x h _)) (h1.trans (read_store_eq_blockByte x h _))
  · exact fetchWord_of_reads (h0.trans (read_ldB_eq_bcdByte x h _)) (h1.trans (read_ldB_eq_bcdByte x h _))

/-! ### Keys and timers (`44_keys_timers.md`) -/

/-- Settles O55. -/
theorem keySkips : Obligations.KeySkips := by
  refine fun x s => ⟨encodeXKk_toNat_fixed 0xE x 0x9E, encodeXKk_toNat_fixed 0xE x 0xA1,
    ⟨_, rfl, rfl, fun _ => rfl, rfl⟩, ⟨_, rfl, rfl, fun _ => rfl, ?_⟩⟩
  rw [State.nextDraw_pc]
  cases hkey : Config.keyPressed s.draws (s.reg x) with
  | true => exact State.skipIf_pc_of_false s rfl
  | false => exact State.skipIf_pc_of_true s rfl

/-- Settles O59. -/
theorem timerWritesInPlace : Obligations.TimerWritesInPlace := fun x _ =>
  ⟨encodeXKk_toNat_fixed 0xF x 0x15, encodeXKk_toNat_fixed 0xF x 0x18, ⟨_, rfl, rfl, fun _ => rfl⟩,
    ⟨_, rfl, rfl, fun _ => rfl⟩⟩

end Sys2Proof.Machine
end

section
/-! PROOFS of the family `other`: the display (`43_display.md`). The compositor XORs a pattern of pixels onto the
display; patterns without a common pixel compose, column by column and row by row. -/

namespace Sys2Proof.Machine

/-! ### XOR of a pattern -/

/-- Two framebuffers with the same pixels on the grid are the same. -/
theorem Framebuffer.ext_pixel {f g : Framebuffer}
    (h : ∀ x y, x < 64 → y < 32 → Framebuffer.pixel f x y = Framebuffer.pixel g x y) : f = g := by
  refine Vector.ext fun y hy => Vector.ext fun x hx => ?_
  simpa [Framebuffer.pixel, hx, hy] using h x y hx hy

/-- From the display and the collision so far, `acc`, drawing the pixels of `cover` leads to `acc'`: it XORs them onto
the grid and reports whether one of them was lit (R203 to R205). -/
structure Draws (cover : Nat → Nat → Bool) (acc acc' : Framebuffer × Bool) : Prop where
  pixel : ∀ x y, x < 64 → y < 32 →
    Framebuffer.pixel acc'.1 x y = (Framebuffer.pixel acc.1 x y ^^ cover x y)
  hit : acc'.2 = true ↔
    acc.2 = true ∨ ∃ x y, x < 64 ∧ y < 32 ∧ cover x y = true ∧ Framebuffer.pixel acc.1 x y = true

section
variable {c c' : Nat → Nat → Bool} {acc acc' acc'' : Framebuffer × Bool}

/-- No pixel of the grid is covered: nothing changes. -/
theorem Draws.refl (h : ∀ x y, x < 64 → y < 32 → c x y = false) : Draws c acc acc where
  pixel x y hx hy := by rw [h x y hx hy, Bool.xor_false]
  hit := by
    refine ⟨.inl, ?_⟩
    rintro (hit | ⟨x, y, hx, hy, hc, -⟩)
    · exact hit
    · rw [h x y hx hy] at hc
      cases hc

theorem Draws.congr (h : Draws c acc acc') (hc : ∀ x y, x < 64 → y < 32 → c x y = c' x y) : Draws c' acc acc' where
  pixel x y hx hy := hc x y hx hy ▸ h.pixel x y hx hy
  hit := by
    rw [h.hit]
    refine or_congr_right (exists_congr fun x => exists_congr fun y => and_congr_right fun hx =>
      and_congr_right fun hy => ?_)
    rw [hc x y hx hy]

/-- The second pattern meets the pixels as the first one found them, since it covers none of those. -/
theorem Draws.trans (h : Draws c acc acc') (h' : Draws c' acc' acc'')
    (hdisj : ∀ x y, c x y = true → c' x y = false) : Draws (fun x y => c x y || c' x y) acc acc'' where
  pixel x y hx hy := by
    rw [h'.pixel x y hx hy, h.pixel x y hx hy]
    cases hc : c x y with
    | true => simp [hdisj x y hc]
    | false => simp
  hit := by
    have hsame {x y} (hx : x < 64) (hy : y < 32) (hc' : c' x y = true) :
        Framebuffer.pixel acc'.1 x y = Framebuffer.pixel acc.1 x y := by
      have hc : c x y = false := Bool.eq_false_iff.2 fun hc => by
        rw [hdisj x y hc] at hc'
        cases hc'
      rw [h.pixel x y hx hy, hc, Bool.xor_false]
    rw [h'.hit, h.hit]
    constructor
    · rintro ((hit | ⟨x, y, hx, hy, hc, hp⟩) | ⟨x, y, hx, hy, hc', hp⟩)
      · exact .inl hit
      · exact .inr ⟨x, y, hx, hy, by simp [hc], hp⟩
      · exact .inr ⟨x, y, hx, hy, by simp [hc'], hsame hx hy hc' ▸ hp⟩
    · rintro (hit | ⟨x, y, hx, hy, hc, hp⟩)
      · exact .inl (.inl hit)
      · rcases Bool.or_eq_true_iff.1 hc with hc | hc'
        · exact .inl (.inr ⟨x, y, hx, hy, hc, hp⟩)
        · exact .inr ⟨x, y, hx, hy, hc', (hsame hx hy hc').trans hp⟩

end

/-- One pixel, toggled. -/
theorem draws_toggle {x y : Nat} (hx : x < 64) (hy : y < 32) (f : Framebuffer) (hit : Bool) :
    Draws (fun px py => decide (px = x ∧ py = y)) (f, hit)
      (f.setPixel x y (!f.pixel x y), hit || f.pixel x y) where
  pixel px py _ _ := by
    by_cases h : px = x ∧ py = y
    · obtain ⟨rfl, rfl⟩ := h
      simp [Framebuffer.pixel_setPixel_same f px py _ hx hy]
    · rw [Framebuffer.pixel_setPixel_ne f x y px py _ (by omega)]
      simp [h]
  hit := by
    rw [Bool.or_eq_true_iff]
    refine or_congr_right ⟨fun h => ⟨x, y, hx, hy, by simp, h⟩, ?_⟩
    rintro ⟨px, py, -, -, hc, hp⟩
    obtain ⟨rfl, rfl⟩ := of_decide_eq_true hc
    exact hp

/-! ### The compositor (R202, R203) -/

/-- The pixels of the columns `cs` of sprite row `b` at row `y`. -/
def columnsCover (b : Byte) (ox y : Nat) (cs : List Nat) (px py : Nat) : Bool :=
  cs.any fun c => decide (px = ox + c ∧ py = y) && spriteBit b c

/-- The pixels of the rows `rs` of the sprite at address `i`. -/
def rowsCover (m : Memory) (i ox oy : Nat) (rs : List Nat) (px py : Nat) : Bool :=
  rs.any fun r => columnsCover (m.read (i + r)) ox (oy + r) (List.range 8) px py

theorem columnsCover_eq_true {b : Byte} {ox y : Nat} {cs : List Nat} {px py : Nat} :
    columnsCover b ox y cs px py = true ↔ ∃ c ∈ cs, (px = ox + c ∧ py = y) ∧ spriteBit b c = true := by
  simp [columnsCover]

theorem rowsCover_eq_true {m : Memory} {i ox oy : Nat} {rs : List Nat} {px py : Nat} :
    rowsCover m i ox oy rs px py = true ↔
      ∃ r ∈ rs, columnsCover (m.read (i + r)) ox (oy + r) (List.range 8) px py = true := by
  simp [rowsCover]

theorem head_le_of_mem {c c' : Nat} {cs : List Nat} (h : ∀ a ∈ cs, c < a) (hc' : c' ∈ c :: cs) : c ≤ c' := by
  rcases List.mem_cons.1 hc' with rfl | hmem
  · exact le_rfl
  · exact (h c' hmem).le

/-- A row of the sprite: the columns rise, so the first one beyond the right edge ends the row, and no column is drawn
twice. -/
theorem draws_drawColumns (b : Byte) (ox : Nat) {y : Nat} (hy : y < 32) (cs : List Nat) (hcs : cs.Pairwise (· < ·))
    (acc : Framebuffer × Bool) : Draws (columnsCover b ox y cs) acc (drawColumns b ox y cs acc) := by
  induction cs generalizing acc with
  | nil => exact Draws.refl fun _ _ _ _ => rfl
  | cons c cs ih =>
    obtain ⟨hlt, hcs⟩ := List.pairwise_cons.1 hcs
    obtain ⟨f, hit⟩ := acc
    unfold drawColumns
    split_ifs with hedge hbit
    · change 64 ≤ ox + c at hedge
      refine Draws.refl fun px py hpx _ => Bool.eq_false_iff.2 fun hc => ?_
      obtain ⟨c', hmem, ⟨rfl, -⟩, -⟩ := columnsCover_eq_true.1 hc
      have hle := head_le_of_mem hlt hmem
      omega
    · refine ((draws_toggle (Nat.lt_of_not_le hedge) hy f hit).trans (ih hcs _) ?_).congr ?_
      · intro px py hc
        obtain ⟨rfl, rfl⟩ := of_decide_eq_true hc
        refine Bool.eq_false_iff.2 fun hc' => ?_
        obtain ⟨c', hmem, ⟨heq, -⟩, -⟩ := columnsCover_eq_true.1 hc'
        have hne := hlt c' hmem
        omega
      · intro px py _ _
        simp [columnsCover, hbit]
    · refine (ih hcs _).congr fun px py _ _ => ?_
      simp [columnsCover, hbit]

/-- The sprite: likewise for its rows. -/
theorem draws_drawRows (m : Memory) (i ox oy : Nat) (rs : List Nat) (hrs : rs.Pairwise (· < ·))
    (acc : Framebuffer × Bool) : Draws (rowsCover m i ox oy rs) acc (drawRows m i ox oy rs acc) := by
  induction rs generalizing acc with
  | nil => exact Draws.refl fun _ _ _ _ => rfl
  | cons r rs ih =>
    obtain ⟨hlt, hrs⟩ := List.pairwise_cons.1 hrs
    unfold drawRows
    split_ifs with hedge
    · change 32 ≤ oy + r at hedge
      refine Draws.refl fun px py _ hpy => Bool.eq_false_iff.2 fun hc => ?_
      obtain ⟨r', hmem, hrow⟩ := rowsCover_eq_true.1 hc
      obtain ⟨-, -, ⟨-, rfl⟩, -⟩ := columnsCover_eq_true.1 hrow
      have hle := head_le_of_mem hlt hmem
      omega
    · have hrow := draws_drawColumns (m.read (i + r)) ox (Nat.lt_of_not_le hedge) (List.range 8)
        List.pairwise_lt_range acc
      refine (hrow.trans (ih hrs _) ?_).congr fun _ _ _ _ => rfl
      intro px py hc
      obtain ⟨-, -, ⟨-, rfl⟩, -⟩ := columnsCover_eq_true.1 hc
      refine Bool.eq_false_iff.2 fun hc' => ?_
      obtain ⟨r', hmem, hrow'⟩ := rowsCover_eq_true.1 hc'
      obtain ⟨-, -, ⟨-, heq⟩, -⟩ := columnsCover_eq_true.1 hrow'
      have hne := hlt r' hmem
      omega

/-- The rows and columns that are drawn are the pixels the sprite covers. -/
theorem rowsCover_eq_spriteCovers (s : State) (x y : Reg) (n : Nibble) (px py : Nat) :
    rowsCover s.mem s.i.toNat (s.reg x).toNat (s.reg y).toNat (List.range n.toNat) px py =
      spriteCovers s x y n px py := by
  rw [Bool.eq_iff_iff, rowsCover_eq_true]
  simp only [columnsCover_eq_true, List.mem_range, spriteCovers, spriteBit, Bool.and_eq_true, decide_eq_true_eq]
  constructor
  · rintro ⟨r, hr, c, hc, ⟨rfl, rfl⟩, hbit⟩
    refine ⟨by omega, ?_⟩
    rwa [Nat.add_sub_cancel_left, Nat.add_sub_cancel_left]
  · rintro ⟨⟨hx, hx', hy, hy'⟩, hbit⟩
    exact ⟨py - (s.reg y).toNat, by omega, px - (s.reg x).toNat, by omega, ⟨by omega, by omega⟩, hbit⟩

/-- The whole sprite with VF reset on entry. -/
theorem draws_drawSprite (s : State) (x y : Reg) (n : Nibble) :
    Draws (spriteCovers s x y n) (s.fb, false)
      (drawSprite s.mem s.i.toNat (s.reg x).toNat (s.reg y).toNat n.toNat s.fb) :=
  (draws_drawRows _ _ _ _ _ List.pairwise_lt_range _).congr fun _ _ _ _ => rowsCover_eq_spriteCovers s x y n _ _

/-! ### The instructions -/

/-- What DRW leaves when the sprite is inside memory. -/
theorem exec_drw_of_le {x y : Reg} {n : Nibble} {s : State} (h : s.i.toNat + n.toNat ≤ 4096) :
    exec (.drw x y n) s = .next (execEffect (.drw x y n) s) :=
  if_pos ((fits_iff _ _).2 h)

section
variable (x y : Reg) (n : Nibble) (s : State)

theorem drw_pixel {px py : Nat} (hx : px < 64) (hy : py < 32) :
    Framebuffer.pixel (execEffect (.drw x y n) s).fb px py =
      (Framebuffer.pixel s.fb px py ^^ spriteCovers s x y n px py) :=
  (draws_drawSprite s x y n).pixel px py hx hy

theorem collisionFlag_eq_one {hit : Bool} : collisionFlag hit = 1 ↔ hit = true := by cases hit <;> decide

theorem drw_vf : (execEffect (.drw x y n) s).reg vf = collisionFlag
    (drawSprite s.mem s.i.toNat (s.reg x).toNat (s.reg y).toNat n.toNat s.fb).2 :=
  State.setReg_reg_same _ _ _

theorem drw_vf_eq_one : (execEffect (.drw x y n) s).reg vf = 1 ↔
    ∃ px py, px < 64 ∧ py < 32 ∧ spriteCovers s x y n px py = true ∧ Framebuffer.pixel s.fb px py = true := by
  rw [drw_vf, collisionFlag_eq_one, (draws_drawSprite s x y n).hit]
  exact or_iff_right Bool.false_ne_true

theorem drw_vf_eq_zero (h : (execEffect (.drw x y n) s).reg vf ≠ 1) : (execEffect (.drw x y n) s).reg vf = 0 := by
  rw [Ne, drw_vf, collisionFlag_eq_one, Bool.not_eq_true] at h
  rw [drw_vf, h]
  rfl

end

/-- Settles O53, by the pattern that the compositor draws. -/
theorem drawXorsSpritePixels : Obligations.DrawXorsSpritePixels := by
  refine fun x y n s => ⟨by rw [encode, encodeXYN_toNat]; rfl, fun h => ?_,
    fun h => exists_fatalEntry (i := .drw x y n) (if_pos h)⟩
  refine ⟨_, exec_drw_of_le h, rfl, fun _ => rfl, fun r hr => execEffect_reg_of_not_mem s (mt List.mem_singleton.1 hr),
    fun px py hx hy => drw_pixel x y n s hx hy, (drw_vf_eq_one x y n s).2, fun hdark => drw_vf_eq_zero x y n s ?_⟩
  rw [Ne, drw_vf_eq_one]
  rintro ⟨px, py, hx, hy, hc, hlit⟩
  rw [hdark px py hx hy hc] at hlit
  cases hlit

/-- The sprite covers the same pixels wherever I, the coordinates and the sprite bytes are the same. -/
theorem spriteCovers_congr {x y : Reg} {n : Nibble} {s u : State} (hi : u.i = s.i) (hx : u.reg x = s.reg x)
    (hy : u.reg y = s.reg y)
    (hmem : ∀ k, k < n.toNat → u.mem.read (s.i.toNat + k) = s.mem.read (s.i.toNat + k)) (px py : Nat) :
    spriteCovers u x y n px py = spriteCovers s x y n px py := by
  simp only [spriteCovers, hi, hx, hy]
  by_cases hin : (s.reg x).toNat ≤ px ∧ px < (s.reg x).toNat + 8 ∧ (s.reg y).toNat ≤ py ∧
      py < (s.reg y).toNat + n.toNat
  · rw [hmem _ (by omega)]
  · simp [hin]

/-- Settles O54: the second XOR with the same pattern undoes the first, and it erases what was dark before. -/
theorem drawTwiceRestoresDisplay : Obligations.DrawTwiceRestoresDisplay := by
  intro x y n s t u h ht hfb hi hx hy hmem
  rw [exec_drw_of_le h] at ht
  cases ht
  have hcover := spriteCovers_congr hi hx hy hmem
  have hpixel {px py} (hpx : px < 64) (hpy : py < 32) : Framebuffer.pixel u.fb px py =
      (Framebuffer.pixel s.fb px py ^^ spriteCovers s x y n px py) :=
    hfb ▸ drw_pixel x y n s hpx hpy
  refine ⟨_, exec_drw_of_le (hi ▸ h), Framebuffer.ext_pixel fun px py hpx hpy => ?_, ?_⟩
  · rw [drw_pixel x y n u hpx hpy, hpixel hpx hpy, hcover, Bool.xor_assoc, Bool.xor_self, Bool.xor_false]
  · rw [drw_vf_eq_one]
    refine exists_congr fun px => exists_congr fun py => and_congr_right fun hpx => and_congr_right fun hpy => ?_
    rw [hcover, hpixel hpx hpy]
    refine and_congr_right fun hc => ?_
    rw [hc, Bool.xor_true, Bool.not_eq_true']

/-- Settles O52. -/
theorem clearDarkensDisplay : Obligations.ClearDarkensDisplay := by
  refine ⟨rfl, fun s => ⟨_, rfl, rfl, fun _ => rfl, fun px py _ _ => Framebuffer.pixel_clear px py⟩,
    fun s hr ht hq hpc hw => ?_⟩
  have hrun : runWord (fetchWord s) s.advancePc = .next (s.advancePc.setFb Framebuffer.clear) := by
    rw [hw]
    exact runWord_of_ok (decodeWord_encode .cls) _
  have hrender := State.renderIfRunning_of_running (s := s.advancePc.setFb Framebuffer.clear) hr
  have hstep : step s =
      .next ((s.advancePc.setFb Framebuffer.clear).emit (.render Framebuffer.clear)).passTurn := by
    rw [step_engine s hr ht hq hpc, hrun, onNext_next, onNext_next, hrender]
    rfl
  exact ⟨_, Framebuffer.clear, hstep, rfl, Framebuffer.pixel_clear⟩

end Sys2Proof.Machine
end
